-- ==== Sys2Proof/Word.lean ====
section
/-! DEFINITION. The word types of the WA-612: bytes of a frame, 16-bit channel addresses and values, 32-bit times. -/

namespace Sys2Proof

/-- A byte of a frame: envelope fields, node addresses, flags (00_scope.md section 2.7). -/
abbrev Byte := BitVec 8

/-- A node address, 8 bits (00_scope.md section 2.3). -/
abbrev NodeAddr := BitVec 8

/-- A channel address, 16 bits: source node in the high byte, channel index in the low byte (00_scope.md section 2.3). -/
abbrev ChannelAddr := BitVec 16

/-- A value in channel units, a signed 16-bit number in two's complement (00_scope.md section 2.4, R178). -/
abbrev Value := BitVec 16

/-- A value of the Time Base counter, 32 bits, in milliseconds (R184). -/
abbrev Time := BitVec 32

end Sys2Proof
end

