-- ==== Sys2Proof/Syntax.lean ====
section
/-! DEFINITION. The commands of the WA-612: one constructor of Instr for each row of spec/opcode_table.json. -/

namespace Sys2Proof

/-- The two link ports: north faces the controller, south faces the front-ends (chapter 10). -/
inductive Port where
  | north
  | south
  deriving DecidableEq, Repr

/-- The kinds that pass north unchanged through NORTHBOUND_TRANSIT (R173). -/
inductive NorthKind where
  | digest
  | alarm
  | notice
  | mgmtRsp
  deriving DecidableEq, Repr

/-- The kinds that pass south through SOUTHBOUND_TRANSIT (R174). -/
inductive SouthKind where
  | command
  | probe
  | mgmtReq
  deriving DecidableEq, Repr

/-- What every management request carries before its arguments: the Destination and Source of the
MGMT_REQ envelope and the request id (R125, R178). -/
structure ReqHeader where
  dest : NodeAddr
  source : NodeAddr
  id : Byte
  deriving DecidableEq, Repr

/-- The commands. A frame command stands for the whole valid frame: its Length and Check are those R178 and
R170 give its fields. A management request carries its argument bytes as sent, so that step 4 of R127 can
find a wrong length. -/
inductive Instr where
  /-- POWER_ON_RESET: the strap levels, and whether RST_N is held low as the supply comes up (R186). -/
  | powerOnReset (straps : Byte) (rstLow : Bool)
  /-- PIN_RESET_ASSERT (R187). -/
  | pinResetAssert
  /-- PIN_RESET_RELEASE: the level of PRESERVE and the strap levels at the release (R187, R183). -/
  | pinResetRelease (preserve : Bool) (straps : Byte)
  /-- SAMPLE_ARRIVAL: the fields of the SAMPLE frame (R22, R178). -/
  | sampleArrival (dest source channel seq flags : Byte) (value : Value)
  /-- DESCRIPTOR_ARRIVAL: the fields of the DESCRIPTOR frame (R113, R178). -/
  | descriptorArrival (dest source channel classCode : Byte) (rangeLow rangeHigh : Value) (period : BitVec 16)
  /-- NORTHBOUND_TRANSIT: a DIGEST, ALARM, NOTICE or MGMT_RSP frame from the South port (R173). -/
  | northboundTransit (kind : NorthKind) (dest source : Byte) (payload : List Byte)
  /-- SOUTHBOUND_TRANSIT: a COMMAND, PROBE or MGMT_REQ frame from the North port (R174). -/
  | southboundTransit (kind : SouthKind) (dest source : Byte) (payload : List Byte)
  /-- INVALID_FRAME: the port and every byte between the start and the end symbol (R171). -/
  | invalidFrame (port : Port) (bytes : List Byte)
  /-- FRAME_ABANDONED: the port, and the data bytes that follow the abandoning start symbol (R169). -/
  | frameAbandoned (port : Port) (data : List Byte)
  /-- NORTH_TRANSMIT_COMPLETE (R177, R162). -/
  | northTransmitComplete
  /-- SOUTH_TRANSMIT_COMPLETE (R166). -/
  | southTransmitComplete
  /-- PROBE_TRANSMIT_COMPLETE (R111). -/
  | probeTransmitComplete
  /-- STALE_EXPIRY of the row with this address (R73). -/
  | staleExpiry (addr : ChannelAddr)
  /-- PROBE_WAIT_EXPIRY of the entry with this address (R112). -/
  | probeWaitExpiry (addr : ChannelAddr)
  /-- HOLD_EXPIRY of the entry with this address (R120). -/
  | holdExpiry (addr : ChannelAddr)
  /-- LEASE_EXPIRY (R131). -/
  | leaseExpiry
  /-- READ_PART, request code 0x01 (R143). -/
  | readPart (h : ReqHeader) (args : List Byte)
  /-- READ_COUNTERS, request code 0x02 (R143). -/
  | readCounters (h : ReqHeader) (args : List Byte)
  /-- LIST_ROWS, request code 0x03 (R144). -/
  | listRows (h : ReqHeader) (args : List Byte)
  /-- READ_ROW, request code 0x04 (R144). -/
  | readRow (h : ReqHeader) (args : List Byte)
  /-- READ_STATE, request code 0x05 (R144). -/
  | readState (h : ReqHeader) (args : List Byte)
  /-- READ_ALARMS, request code 0x06 (R144). -/
  | readAlarms (h : ReqHeader) (args : List Byte)
  /-- READ_CLASS, request code 0x07 (R144). -/
  | readClass (h : ReqHeader) (args : List Byte)
  /-- READ_CAPTURE, request code 0x08 (R151). -/
  | readCapture (h : ReqHeader) (args : List Byte)
  /-- READ_ENROLMENT, request code 0x09 (R144). -/
  | readEnrolment (h : ReqHeader) (args : List Byte)
  /-- OPEN_SESSION, request code 0x10 (R129). -/
  | openSession (h : ReqHeader) (args : List Byte)
  /-- CLOSE_SESSION, request code 0x11 (R132). -/
  | closeSession (h : ReqHeader) (args : List Byte)
  /-- STAGE_ROW, request code 0x20 (R135). -/
  | stageRow (h : ReqHeader) (args : List Byte)
  /-- STAGE_DELETE, request code 0x21 (R136). -/
  | stageDelete (h : ReqHeader) (args : List Byte)
  /-- DISCARD, request code 0x22 (R136). -/
  | discard (h : ReqHeader) (args : List Byte)
  /-- COMMIT, request code 0x23 (R137). -/
  | commit (h : ReqHeader) (args : List Byte)
  /-- WRITE_CLASS, request code 0x28 (R140). -/
  | writeClass (h : ReqHeader) (args : List Byte)
  /-- DELETE_CLASS, request code 0x29 (R140). -/
  | deleteClass (h : ReqHeader) (args : List Byte)
  /-- SET_PART, request code 0x2A (R141). -/
  | setPart (h : ReqHeader) (args : List Byte)
  /-- ACK_ALARM, request code 0x30 (R87). -/
  | ackAlarm (h : ReqHeader) (args : List Byte)
  /-- TRIP_RELEASE, request code 0x31 (R69). -/
  | tripRelease (h : ReqHeader) (args : List Byte)
  /-- ENROL, request code 0x32 (R109). -/
  | enrol (h : ReqHeader) (args : List Byte)
  /-- CAPTURE_ARM, request code 0x38 (R148). -/
  | captureArm (h : ReqHeader) (args : List Byte)
  /-- CAPTURE_TRIGGER, request code 0x39 (R150). -/
  | captureTrigger (h : ReqHeader) (args : List Byte)
  /-- CAPTURE_ABORT, request code 0x3A (R152). -/
  | captureAbort (h : ReqHeader) (args : List Byte)
  /-- CAPTURE_RELEASE, request code 0x3B (R153). -/
  | captureRelease (h : ReqHeader) (args : List Byte)
  /-- RESET_RUNTIME, request code 0x3F with scope 0x01 (R145). -/
  | resetRuntime (h : ReqHeader) (args : List Byte)
  /-- RESET_TABLES, request code 0x3F with scope 0x02 (R145). -/
  | resetTables (h : ReqHeader) (args : List Byte)
  /-- UNKNOWN_REQUEST: a request code chapter 7 does not name (R127). -/
  | unknownRequest (h : ReqHeader) (code : Byte) (args : List Byte)
  /-- START_SYMBOL: the port, and the data bytes that follow the start symbol (R169). -/
  | startSymbol (port : Port) (data : List Byte)
  /-- TIME_BASE_INCREMENT (R184). -/
  | timeBaseIncrement
  deriving DecidableEq, Repr

end Sys2Proof
end

