-- ==== Sys2Proof/Decode.lean ====
section
/-! DEFINITION. decodeTableWord: the command a word spells by the bits of spec/opcode_table.json. No row of the table gives
bits (every "fields" is empty), so no word spells a command (log entry 2). -/

namespace Sys2Proof

/-- The command an nbits-bit word spells by the table's bits: none, since no row gives any. -/
def decodeTableWord (nbits w : Nat) : Option Instr :=
  match nbits, w with
  | _, _ => none

end Sys2Proof
end

