-- ==== Sys2Proof/Config.lean ====
section
/-! DEFINITION. The capacities and fixed numbers the spec gives the WA-612, and the free values of the two
read-outs whose value the spec does not state (log entry 17). -/

namespace Sys2Proof.Config

/-- Rows the Channel Table holds at most (R1). -/
def rowCapacity : Nat := 128
/-- Entries the Class Table holds at most (R11). -/
def classCapacity : Nat := 16
/-- Entries the Alarm Table holds at most (R80). -/
def alarmCapacity : Nat := 64
/-- Entries the Enrolment List holds at most (R105). -/
def enrolCapacity : Nat := 16
/-- Items the Staging List holds at most (R135). -/
def stagingCapacity : Nat := 8
/-- Elements the capture buffer holds at most (R147). -/
def captureCapacity : Nat := 512
/-- Frames the Forward Queue holds at most (R158). -/
def forwardCapacity : Nat := 64
/-- Notices the Notice Queue holds at most (R160). -/
def noticeCapacity : Nat := 8
/-- Responses the Response Queue holds at most (R161). -/
def responseCapacity : Nat := 8
/-- Frames the Command Queue holds at most (R165). -/
def commandCapacity : Nat := 16
/-- The guard count at which the next pick takes the Forward Queue head (R163). -/
def guardLimit : Nat := 8
/-- Bytes a receiver stores at most, which is the longest frame between delimiters (R169). -/
def frameBytesMax : Nat := 54
/-- The greatest Length byte (R171). -/
def lengthMax : Nat := 48
/-- The hold of a FAILED or REFUSED entry, in ms (R106). -/
def holdTime : Time := 2000#32
/-- The greatest value of the saturating 16-bit counts (R42, R94). -/
def countMax : Nat := 65535

/-- DESIGN CHOICE (log entry 17), safe: the lease remaining that READ_PART answers when the lease deadline is past
and its expiry not yet taken, which R143 does not state; free within the range R143 gives. The argument is
State.freeReads. -/
opaque overdueLease : Nat → Fin 10001

/-- DESIGN CHOICE (log entry 17), safe: the deadline remaining that READ_ENROLMENT answers for an entry whose deadline is
past and its expiry not yet taken, which R181 does not state; free within the range R181 gives. The arguments
are State.freeReads and the entry's position. -/
opaque overdueEntry : Nat → Nat → Fin 2001

end Sys2Proof.Config
end

