-- ==== Sys2Proof/Machine/State.lean ====
section
/-! DEFINITION. The state of the WA-612 as plain data, block by block (00_scope.md Table 1-1), the outcomes a step
may stop with, and State.reset, the part right after power-on reset. -/

namespace Sys2Proof.Machine

/-! ### The Channel Table: configuration half (Table 1-2) -/

/-- The policy of a row or template (R4). -/
inductive Policy where
  | pass
  | digest
  | quiet
  | block
  deriving DecidableEq, Repr

/-- How a row's configuration was made (R3). -/
inductive Origin where
  | managed
  | enrolled
  deriving DecidableEq, Repr

/-- The gate of a row: the gate row's address and the gate threshold (R8). -/
structure Gate where
  addr : ChannelAddr
  threshold : Value
  deriving DecidableEq, Repr

/-- The range a front-end declared (R9). -/
structure ValueRange where
  low : Value
  high : Value
  deriving DecidableEq, Repr

/-- The configuration half of a row (Table 1-2). A stale window of 0 means not supervised (R7). -/
structure RowConfig where
  addr : ChannelAddr
  origin : Origin
  classCode : Option Byte
  policy : Policy
  depth : Nat
  lowLimit : Option Value
  highLimit : Option Value
  hysteresis : Nat
  persistence : Nat
  tripLimit : Option Value
  tripPersistence : Nat
  tripOutput : Bool
  staleWindow : Nat
  gate : Option Gate
  range : Option ValueRange
  deriving DecidableEq, Repr

/-! ### The Channel Table: runtime record (Table 1-6) -/

/-- What a digest leaves in the record: mean, min and max (R34). -/
structure Digest where
  mean : Value
  min : Value
  max : Value
  deriving DecidableEq, Repr

/-- A persistence counter with its condition, active or inactive (R51, R53, R65). -/
structure Watch where
  counter : Nat
  active : Bool
  deriving DecidableEq, Repr

/-- The runtime record of a row (Table 1-6). -/
structure Runtime where
  sum : Int
  count : Nat
  windowMin : Option Value
  windowMax : Option Value
  lastDigest : Option Digest
  digestNumber : BitVec 16
  lastRaw : Option Value
  lastSeq : Option Byte
  gapCount : Nat
  dupCount : Nat
  dropCount : Nat
  gapPending : Bool
  low : Watch
  high : Watch
  trip : Watch
  stale : Bool
  gateOpen : Bool
  staleDeadline : Option Time
  deriving DecidableEq, Repr

/-- A row of the Channel Table: its two halves, created and removed together (chapter 1). -/
structure Row where
  config : RowConfig
  rt : Runtime
  deriving DecidableEq, Repr

/-! ### The Class Table and the part settings -/

/-- The stale mode of a template; FIXED carries its window (Table 1-4). -/
inductive StaleMode where
  | none
  | fixed (window : Nat)
  | auto
  deriving DecidableEq, Repr

/-- A Class Table entry: class code and template (Table 1-4). -/
structure ClassEntry where
  code : Byte
  policy : Policy
  depth : Nat
  lowPercent : Option Nat
  highPercent : Option Nat
  hysteresisPercent : Nat
  persistence : Nat
  tripPercent : Option Nat
  tripPersistence : Nat
  tripOutput : Bool
  staleMode : StaleMode
  deriving DecidableEq, Repr

/-- The enrolment mode (R107). -/
inductive EnrolMode where
  | off
  | manual
  | auto
  deriving DecidableEq, Repr

/-- The unknown policy (R24). -/
inductive UnknownPolicy where
  | forward
  | drop
  deriving DecidableEq, Repr

/-- The four part settings (Table 1-5); the probe timeout in ms. -/
structure Settings where
  mode : EnrolMode
  unknown : UnknownPolicy
  probeTimeout : Nat
  probeRetries : Nat
  deriving DecidableEq, Repr

/-! ### The Alarm Unit and the Trip Latch -/

/-- The Trip Latch's one state (R68). -/
inductive Latch where
  | clear
  | set
  deriving DecidableEq, Repr

/-- The condition an alarm entry follows (R82). -/
inductive AlarmKind where
  | low
  | high
  | trip
  | stale
  deriving DecidableEq, Repr

/-- The state of an alarm entry (R81). -/
inductive AlarmState where
  | activeUnack
  | activeAck
  | clearUnack
  | closed
  deriving DecidableEq, Repr

/-- How an episode closed (R81, R82). -/
inductive Cause where
  | cleared
  | acked
  | retired
  deriving DecidableEq, Repr

/-- An alarm entry (Table 5-1). -/
structure AlarmEntry where
  addr : ChannelAddr
  kind : AlarmKind
  state : AlarmState
  episode : BitVec 16
  occurrence : Nat
  cause : Option Cause
  firstActive : Time
  lastChange : Time
  extreme : Value
  reportOwed : Bool
  deriving DecidableEq, Repr

/-- The state of the Overflow Record (R94). -/
inductive OverflowState where
  | clear
  | pending
  deriving DecidableEq, Repr

/-- The Overflow Record (R94). -/
structure OverflowRecord where
  lostCount : Nat
  state : OverflowState
  firstLost : Option Time
  lastChange : Time
  reportOwed : Bool
  deriving DecidableEq, Repr

/-! ### The Enrolment Unit -/

/-- The state of an Enrolment List entry (R106). -/
inductive EnrolState where
  | probing
  | failed
  | refused
  deriving DecidableEq, Repr

/-- Why an entry was refused (Table 6-1). -/
inductive RefuseReason where
  | malformed
  | unknownClass
  | tableFull
  deriving DecidableEq, Repr

/-- An Enrolment List entry (Table 6-1). -/
structure EnrolEntry where
  addr : ChannelAddr
  state : EnrolState
  attempts : Nat
  probeOwed : Bool
  deadline : Option Time
  reason : Option RefuseReason
  created : Time
  deriving DecidableEq, Repr

/-! ### The Management Agent -/

/-- The session record while OPEN (R128); NONE is the absence of one. The lease in ms. -/
structure Session where
  owner : NodeAddr
  lease : Nat
  deadline : Time
  deriving DecidableEq, Repr

/-- An item of the Staging List: a row image or a delete mark (R135). -/
inductive StagedItem where
  | row (config : RowConfig)
  | delete (addr : ChannelAddr)
  deriving DecidableEq, Repr

/-- The statuses of a response (R127). -/
inductive Status where
  | ok
  | unknownRequest
  | badRequest
  | noSession
  | sessionHeld
  | notFound
  | exists
  | stagingFull
  | badRow
  | tableFull
  | classFull
  | staleEpisode
  | stillActive
  | captureState
  | mode
  deriving DecidableEq, Repr

/-- What a request's rule answers: a status and its data (R127). -/
structure Answer where
  status : Status
  data : List Byte
  deriving DecidableEq, Repr

/-- One complete response: request id, request code, status and data (R134). -/
structure Response where
  id : Byte
  code : Byte
  status : Status
  data : List Byte
  deriving DecidableEq, Repr

/-! ### The Capture Unit -/

/-- The state of the capture record (R147). -/
inductive CaptureState where
  | idle
  | armed
  | triggered
  | full
  deriving DecidableEq, Repr

/-- The trigger mode of a capture (R147). -/
inductive TriggerMode where
  | onRaise
  | manual
  deriving DecidableEq, Repr

/-- A capture element as the buffer holds it (R147, R39). -/
structure Element where
  value : Value
  seq : Byte
  flags : Byte
  arrival : BitVec 16
  deriving DecidableEq, Repr

/-- The capture record and its buffer, oldest first (R147). The held count is the buffer's length. -/
structure Capture where
  state : CaptureState
  channel : Option ChannelAddr
  preCount : Nat
  postCount : Nat
  trigger : TriggerMode
  triggerIndex : Option Nat
  triggerTime : Option Time
  buffer : List Element
  deriving DecidableEq, Repr

/-! ### Frames, queues, ports -/

/-- The nine frame kinds (00_scope.md Table 2-2, R172). -/
inductive FrameKind where
  | sample
  | descriptor
  | probe
  | command
  | mgmtReq
  | mgmtRsp
  | digest
  | alarm
  | notice
  deriving DecidableEq, Repr

/-- A whole frame (R178). Its Length byte is the payload's length. -/
structure Frame where
  kind : FrameKind
  dest : Byte
  source : Byte
  payload : List Byte
  check : BitVec 16
  deriving DecidableEq, Repr

/-- A reference of the Report Queue: to an alarm entry or to the Overflow Record (R159). -/
inductive Reference where
  | entry (addr : ChannelAddr) (kind : AlarmKind)
  | overflow
  deriving DecidableEq, Repr

/-- The notice kinds (R160). -/
inductive NoticeKind where
  | enrolled
  | refused
  | probeFailed
  | sessionExpired
  | captureDone
  | captureAborted
  deriving DecidableEq, Repr

/-- A notice waiting in the Notice Queue (R160). -/
structure Notice where
  kind : NoticeKind
  addr : ChannelAddr
  detail : BitVec 16
  time : Time
  deriving DecidableEq, Repr

/-- A receiver: IDLE, or IN_FRAME with the bytes held and the count of data bytes taken in the frame, which goes on
counting past the 54 it stores (R169). -/
inductive Receiver where
  | idle
  | inFrame (held : List Byte) (taken : Nat)
  deriving DecidableEq, Repr

/-- The South transmitter: IDLE, or BUSY with a command frame, or BUSY with a probe and the address the probe was
built for, which its completion names (R177, R111). -/
inductive SouthTx where
  | idle
  | command (frame : Frame)
  | probe (addr : ChannelAddr) (frame : Frame)
  deriving DecidableEq, Repr

/-- The five counters of a port (R175). -/
structure PortCounters where
  goodFrames : BitVec 32
  checkErrors : BitVec 32
  lengthErrors : BitVec 32
  unknownKinds : BitVec 32
  misdirected : BitVec 32
  deriving DecidableEq, Repr

/-- The five part counters (R176). -/
structure PartCounters where
  forwardDrops : BitVec 32
  commandDrops : BitVec 32
  requestsDiscarded : BitVec 32
  enrolListFull : BitVec 32
  noticesLost : BitVec 32
  deriving DecidableEq, Repr

/-- Whether the part runs, or is held by RST_N: in a pin reset, or in a power-on reset that ends when RST_N is
released (R186, R187). -/
inductive Phase where
  | running
  | pinReset
  | powerOnHeld
  deriving DecidableEq, Repr

/-- The state of the WA-612. INVENTORY.md names the rule and the reset value of each field. pending and freeReads
are the model's own (log entries 1, 17). -/
structure State where
  pending : List Instr
  phase : Phase
  node : NodeAddr
  now : Time
  rows : List Row
  classes : List ClassEntry
  settings : Settings
  tripLatch : Latch
  alarms : List AlarmEntry
  overflow : OverflowRecord
  episode : BitVec 16
  enrol : List EnrolEntry
  session : Option Session
  staging : List StagedItem
  replay : Option Response
  capture : Capture
  forwardQ : List Frame
  reportQ : List Reference
  noticeQ : List Notice
  responseQ : List Frame
  commandQ : List Frame
  guardCount : Nat
  lostNotices : Nat
  northTx : Option Frame
  southTx : SouthTx
  northRx : Receiver
  southRx : Receiver
  northCounters : PortCounters
  southCounters : PortCounters
  partCounters : PartCounters
  freeReads : Nat
  deriving DecidableEq, Repr

/-- Faults: none. The spec gives no event that stops the part: a bad frame is counted and dropped (R171), a bad
request is answered with a status (R127). -/
inductive Fault where
  deriving DecidableEq, Repr

/-- Refusals. -/
inductive Refusal where
  /-- Raised by exec's arm of a command that has no meaning yet; safe: the model stops. No arm of this model raises it. -/
  | notModelled (mnemonic : String)
  deriving DecidableEq, Repr

/-- The Overflow Record after every reset (R94, R104). -/
def OverflowRecord.initial : OverflowRecord :=
  { lostCount := 0, state := .clear, firstLost := none, lastChange := 0, reportOwed := false }

/-- The capture record after every reset (R157). -/
def Capture.initial : Capture :=
  { state := .idle, channel := none, preCount := 0, postCount := 1, trigger := .onRaise,
    triggerIndex := none, triggerTime := none, buffer := [] }

/-- The part settings at power-on (R14, Table 1-5). -/
def Settings.initial : Settings :=
  { mode := .off, unknown := .forward, probeTimeout := 20, probeRetries := 3 }

/-- Port counters at power-on (R176). -/
def PortCounters.initial : PortCounters :=
  { goodFrames := 0, checkErrors := 0, lengthErrors := 0, unknownKinds := 0, misdirected := 0 }

/-- Part counters at power-on (R176). -/
def PartCounters.initial : PartCounters :=
  { forwardDrops := 0, commandDrops := 0, requestsDiscarded := 0, enrolListFull := 0, noticesLost := 0 }

/-- The part right after power-on reset with RST_N high (R186). DESIGN CHOICE (log entry 9), unsafe: node, the latched
straps, is 0x00, since the spec cannot give the levels; every other value is the spec's. -/
def State.reset : State :=
  { pending := [], phase := .running, node := 0, now := 0, rows := [], classes := [], settings := Settings.initial,
    tripLatch := .clear, alarms := [], overflow := OverflowRecord.initial, episode := 1, enrol := [],
    session := none, staging := [], replay := none, capture := Capture.initial,
    forwardQ := [], reportQ := [], noticeQ := [], responseQ := [], commandQ := [],
    guardCount := 0, lostNotices := 0, northTx := none, southTx := .idle, northRx := .idle, southRx := .idle,
    northCounters := PortCounters.initial, southCounters := PortCounters.initial,
    partCounters := PartCounters.initial, freeReads := 0 }

end Sys2Proof.Machine
end

