-- ==== Sys2Proof/Machine/Operands.lean ====
section
/-! DEFINITION. The operand forms of the commands: byte order, the Check, frames and their validation, the payload of each
kind, the images and codes that management requests carry (chapter 10). -/

namespace Sys2Proof.Machine

open Sys2Proof

/-! ### Byte order (R178: most significant byte first) -/

/-- The two bytes of a 16-bit field, most significant first (R178). -/
def be16 (w : BitVec 16) : List Byte := [w.extractLsb' 8 8, w.extractLsb' 0 8]

/-- The four bytes of a 32-bit field, most significant first (R178). -/
def be32 (w : BitVec 32) : List Byte :=
  [w.extractLsb' 24 8, w.extractLsb' 16 8, w.extractLsb' 8 8, w.extractLsb' 0 8]

/-- The byte at an offset from the start of a payload or image (R178); 0 past the end, which no parse of a frame or
argument of the length its rule names reaches. -/
def byteAt (bs : List Byte) (i : Nat) : Byte := bs.getD i 0

/-- The 16-bit field at an offset, most significant byte first (R178). -/
def halfAt (bs : List Byte) (i : Nat) : BitVec 16 := byteAt bs i ++ byteAt bs (i + 1)

/-- A one-byte field of a count (R178). -/
def byteOf (n : Nat) : Byte := BitVec.ofNat 8 n

/-- A flags or presence byte from its bits, bit 0 first; unassigned bits are sent as 0 (R178, R179). -/
def flagByte (bits : List Bool) : Byte :=
  bits.foldr (fun b acc => (acc <<< 1) ||| (if b then 1#8 else 0#8)) 0#8

/-- The field of an optional 16-bit value: 0 when absent (R179). -/
def optHalf (v : Option (BitVec 16)) : List Byte := be16 (v.getD 0)

/-- A present value, or absent, by a presence bit; the place of an absent field is ignored (R179). -/
def present {α : Type} (bit : Bool) (v : α) : Option α := if bit then some v else none

/-- The channel address of a node and a channel index (00_scope.md section 2.3). -/
def channelAddr (node index : Byte) : ChannelAddr := node ++ index

/-- The node byte of a channel address (00_scope.md section 2.3). -/
def addrNode (a : ChannelAddr) : Byte := a.extractLsb' 8 8

/-- The channel index of a channel address (00_scope.md section 2.3). -/
def addrIndex (a : ChannelAddr) : Byte := a.extractLsb' 0 8

/-! ### The Check (R170) -/

/-- One bit into the Check's register (R170). -/
def crcBit (reg : BitVec 16) (bit : Bool) : BitVec 16 :=
  if reg.msb != bit then (reg <<< 1) ^^^ 0x1021#16 else reg <<< 1

/-- One byte into the Check's register, most significant bit first (R170). -/
def crcByte (reg : BitVec 16) (b : Byte) : BitVec 16 :=
  [7, 6, 5, 4, 3, 2, 1, 0].foldl (fun r i => crcBit r (b.getLsbD i)) reg

/-- The Check over the bytes from Kind through the last payload byte (R170). -/
def crc16 (bs : List Byte) : BitVec 16 := bs.foldl crcByte 0xFFFF#16

/-! ### Frames (R171, R172, R178) -/

/-- The code of a frame kind (R172). -/
def FrameKind.code : FrameKind → Byte
  | .sample => 0x01
  | .descriptor => 0x02
  | .probe => 0x03
  | .command => 0x04
  | .mgmtReq => 0x05
  | .mgmtRsp => 0x06
  | .digest => 0x07
  | .alarm => 0x08
  | .notice => 0x09

/-- The frame kind of a code; none outside 0x01 to 0x09 (R172). -/
def frameKindOf (code : Byte) : Option FrameKind :=
  match code.toNat with
  | 1 => some .sample
  | 2 => some .descriptor
  | 3 => some .probe
  | 4 => some .command
  | 5 => some .mgmtReq
  | 6 => some .mgmtRsp
  | 7 => some .digest
  | 8 => some .alarm
  | 9 => some .notice
  | _ => none

/-- The port a kind may arrive on (R172). -/
def arrivesOn : FrameKind → Port
  | .probe | .command | .mgmtReq => .north
  | .sample | .descriptor | .mgmtRsp | .digest | .alarm | .notice => .south

/-- Whether a kind allows a payload length (R172). -/
def lengthAllowed (kind : FrameKind) (n : Nat) : Bool :=
  match kind with
  | .sample => n == 5
  | .descriptor => n == 8
  | .probe => n == 1
  | .command => n ≤ 48
  | .mgmtReq => 2 ≤ n && n ≤ 48
  | .mgmtRsp => 3 ≤ n && n ≤ 48
  | .digest => n == 12
  | .alarm => n == 18
  | .notice => n == 10

/-- The bytes the Check covers: the header and the payload (R178). -/
def coveredBytes (kind : FrameKind) (dest source : Byte) (payload : List Byte) : List Byte :=
  kind.code :: dest :: source :: byteOf payload.length :: payload

/-- A frame as its builder makes it: the Check is computed over the frame (R170). -/
def buildFrame (kind : FrameKind) (dest source : Byte) (payload : List Byte) : Frame :=
  { kind, dest, source, payload, check := crc16 (coveredBytes kind dest source payload) }

/-- The bytes of a frame between its delimiters (R178, R177). -/
def Frame.bytes (f : Frame) : List Byte :=
  coveredBytes f.kind f.dest f.source f.payload ++ be16 f.check

/-- Why a complete frame is discarded, by the counter that counts it (R171). -/
inductive FrameError where
  | check
  | length
  | kind
  | misdirected
  deriving DecidableEq, Repr

/-- The checks of R171 on a complete frame, in order: the bytes held and the count of bytes received. -/
def validate (port : Port) (held : List Byte) (received : Nat) : Except FrameError Frame :=
  if received < 6 ∨ Config.frameBytesMax < received then .error .length
  else if crc16 (held.take (held.length - 2)) ≠ halfAt held (held.length - 2) then .error .check
  else if Config.lengthMax < (byteAt held 3).toNat ∨ (byteAt held 3).toNat ≠ received - 6 then .error .length
  else
    match frameKindOf (byteAt held 0) with
    | none => .error .kind
    | some kind =>
      if arrivesOn kind ≠ port then .error .misdirected
      else if lengthAllowed kind (byteAt held 3).toNat = false then .error .length
      else .ok { kind, dest := byteAt held 1, source := byteAt held 2,
                 payload := (held.take (held.length - 2)).drop 4, check := halfAt held (held.length - 2) }

/-! ### Payloads the part reads (R178) -/

/-- What the engine reads of a SAMPLE frame (R22, R23). -/
structure Sample where
  addr : ChannelAddr
  seq : Byte
  flags : Byte
  value : Value
  deriving DecidableEq, Repr

/-- VALID, bit 0 of the flags byte (R178). -/
def Sample.valid (m : Sample) : Bool := m.flags.getLsbD 0
/-- RESTART, bit 1 of the flags byte (R178). -/
def Sample.restart (m : Sample) : Bool := m.flags.getLsbD 1

/-- The payload of a SAMPLE frame (R178). -/
def samplePayload (channel seq flags : Byte) (value : Value) : List Byte :=
  [channel, seq, flags] ++ be16 value

/-- The SAMPLE a frame carries (R22, R178). -/
def sampleOf (f : Frame) : Sample :=
  { addr := channelAddr f.source (byteAt f.payload 0), seq := byteAt f.payload 1, flags := byteAt f.payload 2,
    value := halfAt f.payload 3 }

/-- The raw frame forwarded for a SAMPLE frame: as arrived, but for GAP, bit 2 of the flags byte, which is set when a gap is
pending or the frame already carried it, and the Check, computed afresh (R36). -/
def rawFrame (f : Frame) (gapPending : Bool) : Frame :=
  let m := sampleOf f
  let flags := if gapPending then m.flags ||| 0x04#8 else m.flags
  buildFrame f.kind f.dest f.source (samplePayload (byteAt f.payload 0) m.seq flags m.value)

/-- What the Enrolment Unit reads of a DESCRIPTOR frame (R113). -/
structure Descriptor where
  addr : ChannelAddr
  classCode : Byte
  rangeLow : Value
  rangeHigh : Value
  period : BitVec 16
  deriving DecidableEq, Repr

/-- The payload of a DESCRIPTOR frame (R178). -/
def descriptorPayload (channel classCode : Byte) (rangeLow rangeHigh : Value) (period : BitVec 16) : List Byte :=
  [channel, classCode] ++ be16 rangeLow ++ be16 rangeHigh ++ be16 period

/-- The DESCRIPTOR a frame carries (R113, R178). -/
def descriptorOf (f : Frame) : Descriptor :=
  { addr := channelAddr f.source (byteAt f.payload 0), classCode := byteAt f.payload 1,
    rangeLow := halfAt f.payload 2, rangeHigh := halfAt f.payload 4, period := halfAt f.payload 6 }

/-- The frame kind of a NORTHBOUND_TRANSIT frame (R173). -/
def northFrameKind : NorthKind → FrameKind
  | .digest => .digest
  | .alarm => .alarm
  | .notice => .notice
  | .mgmtRsp => .mgmtRsp

/-- The frame kind of a SOUTHBOUND_TRANSIT frame (R174). -/
def southFrameKind : SouthKind → FrameKind
  | .command => .command
  | .probe => .probe
  | .mgmtReq => .mgmtReq

/-- The MGMT_REQ frame of a request (R178). -/
def requestFrame (h : ReqHeader) (code : Byte) (args : List Byte) : Frame :=
  buildFrame .mgmtReq h.dest h.source (h.id :: code :: args)

/-! ### Codes (R82, Table 6-1, R127, R147, R160, R180) -/

/-- The code of an alarm kind (R82). -/
def AlarmKind.code : AlarmKind → Byte
  | .low => 0x01
  | .high => 0x02
  | .trip => 0x03
  | .stale => 0x04

/-- The alarm kind of a code; OVERFLOW, 0x05, is none of them (R82). -/
def alarmKindOf (code : Byte) : Option AlarmKind :=
  match code.toNat with
  | 1 => some .low
  | 2 => some .high
  | 3 => some .trip
  | 4 => some .stale
  | _ => none

/-- The code of the kind OVERFLOW (R82). -/
def overflowCode : Byte := 0x05

/-- The code of an alarm state (R82). -/
def AlarmState.code : AlarmState → Byte
  | .activeUnack => 0x01
  | .activeAck => 0x02
  | .clearUnack => 0x03
  | .closed => 0x04

/-- The code of the Overflow Record's state (R82). -/
def OverflowState.code : OverflowState → Byte
  | .pending => 0x05
  | .clear => 0x06

/-- The code of a cause; 0x00 when absent (R82). -/
def causeCode : Option Cause → Byte
  | none => 0x00
  | some .cleared => 0x01
  | some .acked => 0x02
  | some .retired => 0x03

/-- The code of an Enrolment List entry's state (Table 6-1). -/
def EnrolState.code : EnrolState → Byte
  | .probing => 0x01
  | .failed => 0x02
  | .refused => 0x03

/-- The code of a refusal reason (Table 6-1, R122). -/
def RefuseReason.code : RefuseReason → Byte
  | .malformed => 0x01
  | .unknownClass => 0x02
  | .tableFull => 0x03

/-- The code of a notice kind (R178). -/
def NoticeKind.code : NoticeKind → Byte
  | .enrolled => 0x01
  | .refused => 0x02
  | .probeFailed => 0x03
  | .sessionExpired => 0x04
  | .captureDone => 0x05
  | .captureAborted => 0x06

/-- The code of a status (R127). -/
def Status.code : Status → Byte
  | .ok => 0x00
  | .unknownRequest => 0x01
  | .badRequest => 0x02
  | .noSession => 0x03
  | .sessionHeld => 0x04
  | .notFound => 0x05
  | .exists => 0x06
  | .stagingFull => 0x07
  | .badRow => 0x08
  | .tableFull => 0x09
  | .classFull => 0x0A
  | .staleEpisode => 0x0B
  | .stillActive => 0x0C
  | .captureState => 0x0D
  | .mode => 0x0E

/-- The code of a capture state (R147). -/
def CaptureState.code : CaptureState → Byte
  | .idle => 0x00
  | .armed => 0x01
  | .triggered => 0x02
  | .full => 0x03

/-- The trigger mode of a code (R147). -/
def triggerModeOf (code : Byte) : Option TriggerMode :=
  match code.toNat with
  | 0 => some .onRaise
  | 1 => some .manual
  | _ => none

/-- The code of a policy (R180). -/
def Policy.code : Policy → Byte
  | .pass => 0x00
  | .digest => 0x01
  | .quiet => 0x02
  | .block => 0x03

/-- The policy of a code; none above 0x03 (R180, R181). -/
def policyOf (code : Byte) : Option Policy :=
  match code.toNat with
  | 0 => some .pass
  | 1 => some .digest
  | 2 => some .quiet
  | 3 => some .block
  | _ => none

/-- The code of an origin (R180). -/
def Origin.code : Origin → Byte
  | .managed => 0x00
  | .enrolled => 0x01

/-- The code of an enrolment mode (R141). -/
def EnrolMode.code : EnrolMode → Byte
  | .off => 0x00
  | .manual => 0x01
  | .auto => 0x02

/-- The enrolment mode of a code (R141). -/
def enrolModeOf (code : Byte) : Option EnrolMode :=
  match code.toNat with
  | 0 => some .off
  | 1 => some .manual
  | 2 => some .auto
  | _ => none

/-- The code of an unknown policy (R141). -/
def UnknownPolicy.code : UnknownPolicy → Byte
  | .forward => 0x00
  | .drop => 0x01

/-- The unknown policy of a code (R141). -/
def unknownPolicyOf (code : Byte) : Option UnknownPolicy :=
  match code.toNat with
  | 0 => some .forward
  | 1 => some .drop
  | _ => none

/-- The code of the Trip Latch's state (R181). -/
def Latch.code : Latch → Byte
  | .clear => 0x00
  | .set => 0x01

/-! ### Payloads the part builds (R92, R96, R37, R164, R178) -/

/-- The 18-byte ALARM payload of an entry, with the top bit of the cause byte as given: clear in a frame, report owed in an
image (R92, R178, R181). -/
def alarmPayload (e : AlarmEntry) (causeTop : Bool) : List Byte :=
  be16 e.addr ++ [e.kind.code, e.state.code] ++ be16 e.episode ++
    [byteOf e.occurrence, causeCode e.cause ||| (if causeTop then 0x80#8 else 0x00#8)] ++
    be32 e.firstActive ++ be32 e.lastChange ++ be16 e.extreme

/-- The ALARM payload of the Overflow Record (R96). -/
def overflowPayload (o : OverflowRecord) : List Byte :=
  be16 0xFFFF#16 ++ [overflowCode, o.state.code] ++ be16 0#16 ++ [0x00, 0x00] ++
    be32 (o.firstLost.getD 0) ++ be32 o.lastChange ++ be16 (BitVec.ofNat 16 o.lostCount)

/-- The ALARM frame of an entry (R92). -/
def alarmFrame (node : NodeAddr) (e : AlarmEntry) : Frame :=
  buildFrame .alarm 0x00 node (alarmPayload e false)

/-- The ALARM frame of the Overflow Record (R96). -/
def overflowFrame (node : NodeAddr) (o : OverflowRecord) : Frame :=
  buildFrame .alarm 0x00 node (overflowPayload o)

/-- The NOTICE frame of a notice and the lost-notice count at its pick (R164). -/
def noticeFrame (node : NodeAddr) (lost : Nat) (n : Notice) : Frame :=
  buildFrame .notice 0x00 node
    ([n.kind.code, byteOf lost] ++ be16 n.addr ++ be16 n.detail ++ be32 n.time)

/-- The DIGEST frame of a row's digest: number, digest, count, and the GATED and LIMIT_ACTIVE flags (R37). -/
def digestFrame (node : NodeAddr) (addr : ChannelAddr) (number : BitVec 16) (d : Digest) (count : Nat)
    (gated limitActive : Bool) : Frame :=
  buildFrame .digest 0x00 node
    (be16 addr ++ be16 number ++ be16 d.mean ++ be16 d.min ++ be16 d.max ++
      [byteOf count, flagByte [gated, limitActive]])

/-- The PROBE frame for an entry's address (R110). -/
def probeFrame (node : NodeAddr) (addr : ChannelAddr) : Frame :=
  buildFrame .probe (addrNode addr) node [addrIndex addr]

/-- The MGMT_RSP frame of a response to a requesting node (R127). -/
def responseFrame (node dest : NodeAddr) (r : Response) : Frame :=
  buildFrame .mgmtRsp dest node ([r.id, r.code, r.status.code] ++ r.data)

/-! ### The row image (R180, R181, R10) -/

/-- The row configuration a row image gives, its origin MANAGED whatever the image says and a class code of 0 absent
(R135, R180). A policy byte above 0x03 has no policy; rowFault refuses it. -/
def rowOfImage (bs : List Byte) : RowConfig :=
  let p := byteAt bs 2
  { addr := halfAt bs 0
    origin := .managed
    classCode := if byteAt bs 4 = 0 then none else present (p.getLsbD 0) (byteAt bs 4)
    policy := (policyOf (byteAt bs 5)).getD .block
    depth := (byteAt bs 6).toNat
    lowLimit := present (p.getLsbD 1) (halfAt bs 7)
    highLimit := present (p.getLsbD 2) (halfAt bs 9)
    hysteresis := (halfAt bs 11).toNat
    persistence := (byteAt bs 13).toNat
    tripLimit := present (p.getLsbD 3) (halfAt bs 14)
    tripPersistence := (byteAt bs 16).toNat
    tripOutput := p.getLsbD 6
    staleWindow := (halfAt bs 17).toNat
    gate := present (p.getLsbD 4) { addr := halfAt bs 19, threshold := halfAt bs 21 }
    range := present (p.getLsbD 5) { low := halfAt bs 23, high := halfAt bs 25 } }

/-- The row image of a configuration (R180). -/
def rowImage (c : RowConfig) : List Byte :=
  be16 c.addr ++
  [flagByte [c.classCode.isSome, c.lowLimit.isSome, c.highLimit.isSome, c.tripLimit.isSome, c.gate.isSome,
      c.range.isSome, c.tripOutput],
    c.origin.code, c.classCode.getD 0, c.policy.code, byteOf c.depth] ++
  optHalf c.lowLimit ++ optHalf c.highLimit ++ be16 (BitVec.ofNat 16 c.hysteresis) ++ [byteOf c.persistence] ++
  optHalf c.tripLimit ++ [byteOf c.tripPersistence] ++ be16 (BitVec.ofNat 16 c.staleWindow) ++
  optHalf (c.gate.map (·.addr)) ++ optHalf (c.gate.map (·.threshold)) ++
  optHalf (c.range.map (·.low)) ++ optHalf (c.range.map (·.high))

/-- The seven depths (Table 1-2). -/
def depthOk (n : Nat) : Bool := [1, 2, 4, 8, 16, 32, 64].contains n

/-- A stale window is 0 or 10 to 60000 ms (Table 1-2). -/
def windowOk (n : Nat) : Bool := n == 0 || (10 ≤ n && n ≤ 60000)

/-- The limits leave room for both margins, on the full integer values (R10, check 3). -/
def limitsOk (low high : Option Value) (hysteresis : Nat) : Bool :=
  match low, high with
  | some l, some h => l.toInt + hysteresis ≤ h.toInt - hysteresis
  | _, _ => true

/-- The first check of Table 1-3 that a row image fails, by its reason code; none when it passes all (R10). The policy is
given as its code, since check 6 is of the byte. -/
def rowFault (c : RowConfig) (policyByte : Byte) : Option Byte :=
  if depthOk c.depth = false then some 0x01
  else if (1 ≤ c.persistence && c.persistence ≤ 15 && 1 ≤ c.tripPersistence && c.tripPersistence ≤ 4) = false then
    some 0x02
  else if (c.hysteresis ≤ 32767 && limitsOk c.lowLimit c.highLimit c.hysteresis) = false then some 0x03
  else if windowOk c.staleWindow = false then some 0x04
  else if c.gate.any (fun g => g.addr == c.addr) then some 0x05
  else if (policyOf policyByte).isNone then some 0x06
  else if c.range.any (fun r => decide (r.high.toInt < r.low.toInt)) then some 0x07
  else none

/-! ### The class image (R181, R12) -/

/-- The class a class image gives (R181). A policy byte above 0x03 and a stale mode above 0x02 have no reading; classOk
refuses them. -/
def classOfImage (bs : List Byte) : ClassEntry :=
  let p := byteAt bs 1
  { code := byteAt bs 0
    policy := (policyOf (byteAt bs 2)).getD .block
    depth := (byteAt bs 3).toNat
    lowPercent := present (p.getLsbD 0) (byteAt bs 4).toNat
    highPercent := present (p.getLsbD 1) (byteAt bs 5).toNat
    hysteresisPercent := (byteAt bs 6).toNat
    persistence := (byteAt bs 7).toNat
    tripPercent := present (p.getLsbD 2) (byteAt bs 8).toNat
    tripPersistence := (byteAt bs 9).toNat
    tripOutput := p.getLsbD 3
    staleMode :=
      match (byteAt bs 10).toNat with
      | 1 => .fixed (halfAt bs 11).toNat
      | 2 => .auto
      | _ => .none }

/-- The code of a stale mode (R181). -/
def StaleMode.code : StaleMode → Byte
  | .none => 0x00
  | .fixed _ => 0x01
  | .auto => 0x02

/-- The window a stale mode sends: 0 unless FIXED (R181). -/
def StaleMode.window : StaleMode → Nat
  | .fixed w => w
  | .none | .auto => 0

/-- The class image of an entry (R181). -/
def classImage (c : ClassEntry) : List Byte :=
  [c.code, flagByte [c.lowPercent.isSome, c.highPercent.isSome, c.tripPercent.isSome, c.tripOutput],
    c.policy.code, byteOf c.depth, byteOf (c.lowPercent.getD 0), byteOf (c.highPercent.getD 0),
    byteOf c.hysteresisPercent, byteOf c.persistence, byteOf (c.tripPercent.getD 0), byteOf c.tripPersistence,
    c.staleMode.code] ++ be16 (BitVec.ofNat 16 c.staleMode.window)

/-- The percents leave room for both margins (R12, fourth check). -/
def percentsOk (low high : Option Nat) (hysteresis : Nat) : Bool :=
  match low, high with
  | some l, some h => l + 2 * hysteresis ≤ h
  | _, _ => true

/-- The template checks of R12 on a class entry whose policy and stale mode have readings. -/
def templateOk (c : ClassEntry) : Bool :=
  depthOk c.depth &&
  (1 ≤ c.persistence && c.persistence ≤ 15) && (1 ≤ c.tripPersistence && c.tripPersistence ≤ 4) &&
  c.lowPercent.all (· ≤ 100) && c.highPercent.all (· ≤ 100) && c.tripPercent.all (· ≤ 100) &&
  c.hysteresisPercent ≤ 25 &&
  percentsOk c.lowPercent c.highPercent c.hysteresisPercent &&
  (match c.staleMode with
    | .fixed w => 10 ≤ w && w ≤ 60000
    | .none | .auto => true)

/-- Whether a class image passes every check of R12. -/
def classImageOk (bs : List Byte) : Bool :=
  (policyOf (byteAt bs 2)).isSome && (byteAt bs 10).toNat ≤ 2 && templateOk (classOfImage bs)

/-! ### The images of the reads (R181) -/

/-- The runtime record image, 37 bytes (R181). -/
def runtimeImage (addr : ChannelAddr) (r : Runtime) : List Byte :=
  be16 addr ++
  [flagByte [r.windowMin.isSome, r.lastDigest.isSome, r.lastRaw.isSome, r.lastSeq.isSome, r.staleDeadline.isSome],
    flagByte [r.low.active, r.high.active, r.trip.active, r.stale, r.gateOpen, r.gapPending]] ++
  be32 (BitVec.ofInt 32 r.sum) ++ [byteOf r.count] ++ optHalf r.windowMin ++ optHalf r.windowMax ++
  optHalf (r.lastDigest.map (·.mean)) ++ optHalf (r.lastDigest.map (·.min)) ++ optHalf (r.lastDigest.map (·.max)) ++
  be16 r.digestNumber ++ optHalf r.lastRaw ++ [r.lastSeq.getD 0] ++
  be16 (BitVec.ofNat 16 r.gapCount) ++ be16 (BitVec.ofNat 16 r.dupCount) ++ be16 (BitVec.ofNat 16 r.dropCount) ++
  [byteOf r.low.counter, byteOf r.high.counter, byteOf r.trip.counter] ++ be32 (r.staleDeadline.getD 0)

/-- The alarm entry image (R181). -/
def alarmImage (e : AlarmEntry) : List Byte := alarmPayload e e.reportOwed

/-- The Overflow Record image, 8 bytes (R181). -/
def overflowImage (o : OverflowRecord) : List Byte :=
  be16 (BitVec.ofNat 16 o.lostCount) ++ [o.state.code, flagByte [o.firstLost.isSome, o.reportOwed]] ++
    be32 (o.firstLost.getD 0)

/-- What a deadline still has to run: the deadline minus the time of the request; once it is past, the value given, which is
free (R143, R181; log entry 17). -/
def remaining (deadline now : Time) (overdue : Nat) : Nat :=
  if 0 ≤ (deadline - now).toInt then (deadline - now).toNat else overdue

/-- The Enrolment List entry image, 11 bytes; overdue is the free value of a past deadline (R181). -/
def enrolImage (now : Time) (overdue : Nat) (e : EnrolEntry) : List Byte :=
  be16 e.addr ++
  [e.state.code,
    byteOf e.attempts ||| flagByte [false, false, false, false, e.probeOwed, e.deadline.isSome],
    (e.reason.map RefuseReason.code).getD 0] ++
  be16 (BitVec.ofNat 16 ((e.deadline.map (fun d => remaining d now overdue)).getD 0)) ++ be32 e.created

/-- The capture element image, 6 bytes (R181). -/
def elementImage (e : Element) : List Byte :=
  be16 e.value ++ [e.seq, e.flags] ++ be16 e.arrival

/-- The five counters of a port in the order of R175. -/
def portImage (c : PortCounters) : List Byte :=
  be32 c.goodFrames ++ be32 c.checkErrors ++ be32 c.lengthErrors ++ be32 c.unknownKinds ++ be32 c.misdirected

/-- The five part counters in the order of R176. -/
def partImage (c : PartCounters) : List Byte :=
  be32 c.forwardDrops ++ be32 c.commandDrops ++ be32 c.requestsDiscarded ++ be32 c.enrolListFull ++ be32 c.noticesLost

/-! ### Requests by code (R182) -/

/-- The requests chapter 7 names; RESET is one code with a scope (R145). -/
inductive RequestKind where
  | readPart
  | readCounters
  | listRows
  | readRow
  | readState
  | readAlarms
  | readClass
  | readCapture
  | readEnrolment
  | openSession
  | closeSession
  | stageRow
  | stageDelete
  | discard
  | commit
  | writeClass
  | deleteClass
  | setPart
  | ackAlarm
  | tripRelease
  | enrol
  | captureArm
  | captureTrigger
  | captureAbort
  | captureRelease
  | reset
  deriving DecidableEq, Repr

/-- The request code of a request (R182). -/
def RequestKind.code : RequestKind → Byte
  | .readPart => 0x01
  | .readCounters => 0x02
  | .listRows => 0x03
  | .readRow => 0x04
  | .readState => 0x05
  | .readAlarms => 0x06
  | .readClass => 0x07
  | .readCapture => 0x08
  | .readEnrolment => 0x09
  | .openSession => 0x10
  | .closeSession => 0x11
  | .stageRow => 0x20
  | .stageDelete => 0x21
  | .discard => 0x22
  | .commit => 0x23
  | .writeClass => 0x28
  | .deleteClass => 0x29
  | .setPart => 0x2A
  | .ackAlarm => 0x30
  | .tripRelease => 0x31
  | .enrol => 0x32
  | .captureArm => 0x38
  | .captureTrigger => 0x39
  | .captureAbort => 0x3A
  | .captureRelease => 0x3B
  | .reset => 0x3F

/-- The request of a code; none for a code chapter 7 does not name (R127, step 3). -/
def requestKindOf (code : Byte) : Option RequestKind :=
  match code.toNat with
  | 0x01 => some .readPart
  | 0x02 => some .readCounters
  | 0x03 => some .listRows
  | 0x04 => some .readRow
  | 0x05 => some .readState
  | 0x06 => some .readAlarms
  | 0x07 => some .readClass
  | 0x08 => some .readCapture
  | 0x09 => some .readEnrolment
  | 0x10 => some .openSession
  | 0x11 => some .closeSession
  | 0x20 => some .stageRow
  | 0x21 => some .stageDelete
  | 0x22 => some .discard
  | 0x23 => some .commit
  | 0x28 => some .writeClass
  | 0x29 => some .deleteClass
  | 0x2A => some .setPart
  | 0x30 => some .ackAlarm
  | 0x31 => some .tripRelease
  | 0x32 => some .enrol
  | 0x38 => some .captureArm
  | 0x39 => some .captureTrigger
  | 0x3A => some .captureAbort
  | 0x3B => some .captureRelease
  | 0x3F => some .reset
  | _ => none

/-- The argument length of a request, which step 4 of R127 compares (R182). -/
def RequestKind.argLength : RequestKind → Nat
  | .readPart => 0
  | .readCounters => 2
  | .listRows => 1
  | .readRow => 2
  | .readState => 2
  | .readAlarms => 1
  | .readClass => 1
  | .readCapture => 3
  | .readEnrolment => 1
  | .openSession => 2
  | .closeSession => 0
  | .stageRow => 27
  | .stageDelete => 2
  | .discard => 0
  | .commit => 0
  | .writeClass => 13
  | .deleteClass => 1
  | .setPart => 4
  | .ackAlarm => 5
  | .tripRelease => 0
  | .enrol => 2
  | .captureArm => 7
  | .captureTrigger => 0
  | .captureAbort => 0
  | .captureRelease => 0
  | .reset => 1

/-- Whether a request needs an open session owned by its Source (R133). -/
def RequestKind.needsSession : RequestKind → Bool
  | .readPart | .readCounters | .listRows | .readRow | .readState | .readAlarms | .readClass | .readCapture
  | .readEnrolment | .openSession | .closeSession | .ackAlarm => false
  | .stageRow | .stageDelete | .discard | .commit | .writeClass | .deleteClass | .setPart | .tripRelease | .enrol
  | .captureArm | .captureTrigger | .captureAbort | .captureRelease | .reset => true

end Sys2Proof.Machine
end

