-- ==== Sys2Proof/Machine/Flags.lean ====
section
/-! DEFINITION. The conditions of a channel, LOW, HIGH, TRIP and STALE, and the gate: zones, persistence counters, the fresh
record, and the work of a valid sample on a runtime record (chapters 1 to 4). -/

namespace Sys2Proof.Machine

open Sys2Proof

/-! ### Counts -/

/-- A saturating increment (00_scope.md section 2.2). -/
def satInc (cap n : Nat) : Nat := min cap (n + 1)

/-- Whether a deadline is reached: the counter minus the deadline, modulo 2^32 and read as signed, is zero or more (R185). -/
def reached (now deadline : Time) : Bool := 0 ≤ (now - deadline).toInt

/-- A time so many ms after another, on the wrapping counter (R184). -/
def after (t : Time) (ms : Nat) : Time := t + BitVec.ofNat 32 ms

/-! ### What the engine issues to the Alarm Unit (R55, R67, R73, R74) -/

/-- A raise or a clear of one channel's condition. A clear carries no value (R55). -/
inductive AlarmEvent where
  | raise (addr : ChannelAddr) (kind : AlarmKind) (time : Time) (value : Value)
  | clear (addr : ChannelAddr) (kind : AlarmKind) (time : Time)
  deriving DecidableEq, Repr

/-! ### Zones and persistence -/

/-- The three zones of a value against a limit and its hysteresis (chapters 3 and 4). -/
inductive Zone where
  | raise
  | hold
  | clear
  deriving DecidableEq, Repr

/-- The zones above a limit, for HIGH and TRIP: the clear threshold is the limit minus the hysteresis on the full integer
values (R51, R52, R65, R66). -/
def zoneAbove (limit : Value) (hysteresis : Nat) (v : Value) : Zone :=
  if limit.toInt < v.toInt then .raise
  else if v.toInt ≤ limit.toInt - hysteresis then .clear
  else .hold

/-- The zones below a limit, for LOW, the mirror image (R53). -/
def zoneBelow (limit : Value) (hysteresis : Nat) (v : Value) : Zone :=
  if v.toInt < limit.toInt then .raise
  else if limit.toInt + hysteresis ≤ v.toInt then .clear
  else .hold

/-- What an evaluation does to a counter and its condition by the zone: the tables of R51, R53 and R65. The counter of
an active condition saturates at cap, which is also the range of the field. -/
def Watch.move (cap persistence : Nat) (zone : Zone) (w : Watch) : Watch :=
  match zone with
  | .raise =>
    { counter := satInc cap w.counter, active := w.active || satInc cap w.counter == persistence }
  | .hold => { w with counter := 0 }
  | .clear => { counter := 0, active := false }

/-- The event a change of a condition issues: a raise when it passes to active, a clear when it passes to inactive, nothing
otherwise (R56, R65). -/
def edge (addr : ChannelAddr) (kind : AlarmKind) (time : Time) (value : Value) (before after : Bool) : List AlarmEvent :=
  match before, after with
  | false, true => [.raise addr kind time value]
  | true, false => [.clear addr kind time]
  | _, _ => []

/-! ### Rows, the fresh record, the gate -/

/-- The row with an address, or none (R2). -/
def rowAt (rows : List Row) (addr : ChannelAddr) : Option Row := rows.find? (fun r => r.config.addr == addr)

/-- The fresh runtime record of a configuration at a time (R15). -/
def freshRecord (c : RowConfig) (now : Time) : Runtime :=
  { sum := 0, count := 0, windowMin := none, windowMax := none, lastDigest := none, digestNumber := 0,
    lastRaw := none, lastSeq := none, gapCount := 0, dupCount := 0, dropCount := 0, gapPending := false,
    low := { counter := 0, active := false }, high := { counter := 0, active := false },
    trip := { counter := 0, active := false }, stale := false, gateOpen := c.gate.isNone,
    staleDeadline := if c.staleWindow ≠ 0 ∧ c.policy ≠ .block then some (after now c.staleWindow) else none }

/-- Whether the gate of a row is found open, from the table as it stands (R47, R48). -/
def gateFound (rows : List Row) : Option Gate → Bool
  | none => true
  | some g =>
    match rowAt rows g.addr with
    | none => false
    | some r =>
      match r.rt.lastDigest with
      | none => false
      | some d => decide (g.threshold.toInt ≤ d.mean.toInt) && !r.rt.stale

/-! ### Limit evaluation of one digest (R45 to R53) -/

/-- LOW at an evaluation: the mirror image of HIGH with the gate open, and the closed-gate work otherwise (R53, R49). -/
def lowAfter (c : RowConfig) (gate : Bool) (mean : Value) (w : Watch) : Watch :=
  if gate then
    match c.lowLimit with
    | some l => w.move 15 c.persistence (zoneBelow l c.hysteresis mean)
    | none => w
  else { counter := 0, active := false }

/-- HIGH at an evaluation (R51, R49). -/
def highAfter (c : RowConfig) (gate : Bool) (mean : Value) (w : Watch) : Watch :=
  if gate then
    match c.highLimit with
    | some l => w.move 15 c.persistence (zoneAbove l c.hysteresis mean)
    | none => w
  else { counter := 0, active := false }

/-- The evaluation of a digest's mean: the gate is recorded, then LOW, then HIGH (R45). -/
def evaluate (c : RowConfig) (gate : Bool) (mean : Value) (r : Runtime) : Runtime :=
  { r with gateOpen := gate, low := lowAfter c gate mean r.low, high := highAfter c gate mean r.high }

/-- What the evaluation issues, LOW before HIGH (R45, R55). -/
def evaluateIssues (c : RowConfig) (now : Time) (mean : Value) (before after : Runtime) : List AlarmEvent :=
  edge c.addr .low now mean before.low.active after.low.active ++
  edge c.addr .high now mean before.high.active after.high.active

/-! ### Steps 1 to 4 of an arrival on the runtime record (R31) -/

/-- Whether an arrival is a duplicate (R27). -/
def isDuplicate (r : Runtime) (m : Sample) : Bool := r.lastSeq == some m.seq && !m.restart

/-- The sequence numbers missing before an arrival: 0 without a last sequence or with RESTART set (R28, R29). -/
def missing (r : Runtime) (m : Sample) : Nat :=
  match r.lastSeq with
  | some last => if m.restart then 0 else (m.seq - last - 1).toNat
  | none => 0

/-- Step 1: gap count, and the frame recorded (R28, R29). -/
def recordSequence (m : Sample) (r : Runtime) : Runtime :=
  { r with
    gapCount := min Config.countMax (r.gapCount + missing r m)
    gapPending := r.gapPending || missing r m != 0
    lastSeq := some m.seq
    lastRaw := some m.value }

/-- Step 2: the stale deadline restarts and an active STALE becomes inactive, on a row with a window (R32, R74). -/
def restartStale (c : RowConfig) (now : Time) (r : Runtime) : Runtime :=
  if c.staleWindow ≠ 0 then { r with stale := false, staleDeadline := some (after now c.staleWindow) } else r

/-- Step 3: TRIP evaluation of the sample's value (R64, R65). -/
def evaluateTrip (c : RowConfig) (v : Value) (r : Runtime) : Runtime :=
  match c.tripLimit with
  | some l => { r with trip := r.trip.move 4 c.tripPersistence (zoneAbove l c.hysteresis v) }
  | none => r

/-- Step 4, first part: the value joins the window (R33). -/
def accumulate (v : Value) (r : Runtime) : Runtime :=
  { r with
    sum := r.sum + v.toInt
    count := r.count + 1
    windowMin := some (match r.windowMin with | some m => if v.toInt < m.toInt then v else m | none => v)
    windowMax := some (match r.windowMax with | some m => if m.toInt < v.toInt then v else m | none => v) }

/-- The digest of a full window: the mean truncated toward zero, the window's min and max (R34). -/
def digestOf (c : RowConfig) (r : Runtime) : Digest :=
  { mean := BitVec.ofInt 16 (r.sum.tdiv c.depth), min := r.windowMin.getD 0, max := r.windowMax.getD 0 }

/-- Items 1 to 3 of a digest's completion: the number, last digest, the emptied accumulator (R34). -/
def completeDigest (c : RowConfig) (r : Runtime) : Runtime :=
  { r with
    digestNumber := r.digestNumber + 1
    lastDigest := some (digestOf c r)
    sum := 0
    count := 0
    windowMin := none
    windowMax := none }

/-- What a conditioned arrival did to the record: the record, what it issued in order, and the digest it completed. -/
structure Worked where
  rt : Runtime
  issued : List AlarmEvent
  digest : Option Digest
  deriving DecidableEq, Repr

/-- Step 4: accumulate, and when the window fills, complete a digest and evaluate it against the table as it stands
(R33, R34, R45). -/
def accumulateStep (rows : List Row) (c : RowConfig) (now : Time) (v : Value) (r : Runtime) : Worked :=
  let filled := accumulate v r
  if filled.count = c.depth then
    let d := digestOf c filled
    let done := completeDigest c filled
    let seen := evaluate c (gateFound rows c.gate) d.mean done
    { rt := seen, issued := evaluateIssues c now d.mean done seen, digest := some d }
  else { rt := filled, issued := [], digest := none }

/-- Steps 2 to 4 of a valid sample, with what they issue: STALE, then TRIP, then LOW and HIGH (R31). -/
def validSteps (rows : List Row) (c : RowConfig) (now : Time) (v : Value) (r : Runtime) : Worked :=
  let fresh := restartStale c now r
  let tripped := evaluateTrip c v fresh
  let w := accumulateStep rows c now v tripped
  { w with
    issued := edge c.addr .stale now v r.stale fresh.stale ++
      edge c.addr .trip now v fresh.trip.active tripped.trip.active ++ w.issued }

/-- Steps 1 to 4 of an arrival that is no duplicate: an invalid sample is recorded and no more (R30, R31). -/
def conditionRecord (rows : List Row) (c : RowConfig) (now : Time) (m : Sample) (r : Runtime) : Worked :=
  let recorded := recordSequence m r
  if m.valid then validSteps rows c now m.value recorded
  else { rt := recorded, issued := [], digest := none }

/-- Whether an issued event is a raise of TRIP (R68). -/
def AlarmEvent.isTripRaise : AlarmEvent → Bool
  | .raise _ .trip _ _ => true
  | .raise _ .low _ _ | .raise _ .high _ _ | .raise _ .stale _ _ | .clear _ _ _ => false

end Sys2Proof.Machine
end

