-- ==== Sys2Proof/Machine/Ops.lean ====
section
/-! DEFINITION. The shared operations of the egress side and the ports: the two output lines, the arbiters' picks, the queues'
offers, the receivers (chapters 9, 10, 11). -/

namespace Sys2Proof.Machine

open Sys2Proof

/-! ### The output lines (Table 11-1) -/

/-- An active-low open-drain output: asserted, or released (section 11.1). -/
inductive Line where
  | asserted
  | released
  deriving DecidableEq, Repr

/-- The TRIP line: asserted while the Trip Latch is SET, released from the assertion of RST_N (R68, R77). -/
def State.tripLine (s : State) : Line :=
  if s.tripLatch = .set ∧ s.phase = .running then .asserted else .released

/-- Whether an entry holds ALERT (R81). -/
def AlarmEntry.holdsAlert (e : AlarmEntry) : Bool := e.state == .activeUnack || e.state == .clearUnack

/-- The ALERT line: asserted exactly when some entry is in ACTIVE_UNACK or CLEAR_UNACK or the Overflow Record is PENDING,
released from the assertion of RST_N (R97, R104). -/
def State.alertLine (s : State) : Line :=
  if (s.alarms.any AlarmEntry.holdsAlert || s.overflow.state == .pending) ∧ s.phase = .running then .asserted
  else .released

/-- The part's own address: the latched value when it lies in 0x01 to 0xFE (R183). -/
def State.ownAddress (s : State) : Option NodeAddr :=
  if s.node = 0x00 ∨ s.node = 0xFF then none else some s.node

/-! ### The alarm entries by key, and the report taken -/

/-- Whether an entry is that of a channel address and kind (R80). -/
def AlarmEntry.isFor (addr : ChannelAddr) (kind : AlarmKind) (e : AlarmEntry) : Bool := e.addr == addr && e.kind == kind

/-- The entry of a channel address and kind, or none (R80). -/
def entryAt (alarms : List AlarmEntry) (addr : ChannelAddr) (kind : AlarmKind) : Option AlarmEntry :=
  alarms.find? (AlarmEntry.isFor addr kind)

/-- The table with a change made to the entry of a pair; the entry keeps its position (R80). -/
def changeEntry (alarms : List AlarmEntry) (addr : ChannelAddr) (kind : AlarmKind)
    (change : AlarmEntry → AlarmEntry) : List AlarmEntry :=
  alarms.map (fun e => if e.isFor addr kind then change e else e)

/-- The table with the entry of a pair freed; the entries after it move up (R80). -/
def freeEntry (alarms : List AlarmEntry) (addr : ChannelAddr) (kind : AlarmKind) : List AlarmEntry :=
  alarms.filter (fun e => !e.isFor addr kind)

/-- The report of an entry taken by the North Arbiter: the ALARM frame is built from the entry as it stands and its
transmission starts, report owed is cleared, a CLOSED entry is freed (R91, R92). DEDUCED (log entry 19), safe: every reference
names an entry in the table (R159); for one that named none, the transmitter would be left as it is. -/
def State.takeEntryReport (addr : ChannelAddr) (kind : AlarmKind) (s : State) : State :=
  match entryAt s.alarms addr kind with
  | none => s
  | some e =>
    { s with
      northTx := some (alarmFrame s.node e)
      alarms := if e.state = .closed then freeEntry s.alarms addr kind
        else changeEntry s.alarms addr kind (fun x => { x with reportOwed := false }) }

/-- The report of the Overflow Record taken by the North Arbiter (R96). -/
def State.takeOverflowReport (s : State) : State :=
  { s with northTx := some (overflowFrame s.node s.overflow), overflow := { s.overflow with reportOwed := false } }

/-- The report a reference names is taken (R91, R96). -/
def State.takeReport (r : Reference) (s : State) : State :=
  match r with
  | .entry addr kind => s.takeEntryReport addr kind
  | .overflow => s.takeOverflowReport

/-! ### The North Arbiter (R162 to R164) -/

/-- The guard count after a pick of a response, report or notice: incremented when the Forward Queue is non-empty at the
pick (R163). -/
def State.guardAfter (s : State) : Nat := if s.forwardQ.isEmpty then s.guardCount else s.guardCount + 1

/-- The Forward Queue head is picked, if there is one; the guard count is set to 0 (R162, R163). -/
def State.pickForward (s : State) : State :=
  match s.forwardQ with
  | [] => s
  | f :: rest => { s with forwardQ := rest, guardCount := 0, northTx := some f }

/-- The pick of the Notice Queue head, or of the Forward Queue head when there is no notice: choices 4 and 5 (R162). The NOTICE
frame carries the lost-notice count, which then becomes 0 (R164). -/
def State.pickNotice (s : State) : State :=
  match s.noticeQ with
  | [] => s.pickForward
  | n :: rest =>
    { s with noticeQ := rest, guardCount := s.guardAfter, northTx := some (noticeFrame s.node s.lostNotices n),
             lostNotices := 0 }

/-- The pick of the Report Queue head, or of what stands below it: choices 3 to 5 (R162). -/
def State.pickReport (s : State) : State :=
  match s.reportQ with
  | [] => s.pickNotice
  | r :: rest => State.takeReport r { s with reportQ := rest, guardCount := s.guardAfter }

/-- The pick of the Response Queue head, or of what stands below it: choices 2 to 5 (R162). -/
def State.pickResponse (s : State) : State :=
  match s.responseQ with
  | [] => s.pickReport
  | f :: rest => { s with responseQ := rest, guardCount := s.guardAfter, northTx := some f }

/-- The North Arbiter's pick, with the transmitter idle: the guard's turn first (R162, R163). -/
def State.pickNorth (s : State) : State :=
  if s.guardCount = Config.guardLimit ∧ s.forwardQ ≠ [] then s.pickForward else s.pickResponse

/-- What follows the joining of an item to a North queue: a pick when the North transmitter is idle (R162). -/
def State.northJoined (s : State) : State := if s.northTx.isNone then s.pickNorth else s

/-! ### Offers to the North queues -/

/-- A part counter incremented, wrapping (R176). -/
def State.countForwardDrop (s : State) : State :=
  { s with partCounters := { s.partCounters with forwardDrops := s.partCounters.forwardDrops + 1 } }

/-- Whether the Forward Queue has room (R158). -/
def State.forwardRoom (s : State) : Bool := decide (s.forwardQ.length < Config.forwardCapacity)

/-- A frame offered to the Forward Queue: it joins at the tail, or is discarded and counted (R158). -/
def State.offerForward (f : Frame) (s : State) : State :=
  if s.forwardRoom then State.northJoined { s with forwardQ := s.forwardQ ++ [f] } else s.countForwardDrop

/-- A reference placed at the tail of the Report Queue, unless the queue already holds it (R91, R159). -/
def State.placeReference (r : Reference) (s : State) : State :=
  if r ∈ s.reportQ then s else State.northJoined { s with reportQ := s.reportQ ++ [r] }

/-- A notice offered to the Notice Queue: it joins at the tail, or is lost and counted twice (R160). -/
def State.offerNotice (n : Notice) (s : State) : State :=
  if s.noticeQ.length < Config.noticeCapacity then State.northJoined { s with noticeQ := s.noticeQ ++ [n] }
  else
    { s with
      lostNotices := satInc 255 s.lostNotices
      partCounters := { s.partCounters with noticesLost := s.partCounters.noticesLost + 1 } }

/-- A response placed at the tail of the Response Queue, its frame built at the placement (R161, R127, R170). -/
def State.placeResponse (dest : NodeAddr) (r : Response) (s : State) : State :=
  State.northJoined { s with responseQ := s.responseQ ++ [responseFrame s.node dest r] }

/-! ### The South Arbiter (R165, R166) -/

/-- The South Arbiter's pick: the Command Queue head, else a probe for the oldest entry that owes one, else the transmitter
becomes idle (R166, R110). -/
def State.pickSouth (s : State) : State :=
  match s.commandQ with
  | f :: rest => { s with commandQ := rest, southTx := .command f }
  | [] =>
    match s.enrol.find? (·.probeOwed) with
    | some e => { s with southTx := .probe e.addr (probeFrame s.node e.addr) }
    | none => { s with southTx := .idle }

/-- What follows a frame's joining the Command Queue, or an entry's coming to owe a probe: a pick when the South transmitter
is idle (R166). -/
def State.southJoined (s : State) : State := if s.southTx = .idle then s.pickSouth else s

/-- A frame offered to the Command Queue: it joins at the tail, or is discarded and counted (R165). -/
def State.offerCommand (f : Frame) (s : State) : State :=
  if s.commandQ.length < Config.commandCapacity then State.southJoined { s with commandQ := s.commandQ ++ [f] }
  else { s with partCounters := { s.partCounters with commandDrops := s.partCounters.commandDrops + 1 } }

/-! ### The receivers (R169, R175) -/

/-- The receiver of a port. -/
def State.receiver (port : Port) (s : State) : Receiver :=
  match port with
  | .north => s.northRx
  | .south => s.southRx

/-- A port's receiver set. -/
def State.setReceiver (port : Port) (r : Receiver) (s : State) : State :=
  match port with
  | .north => { s with northRx := r }
  | .south => { s with southRx := r }

/-- A change made to a port's counters. -/
def State.countPort (port : Port) (change : PortCounters → PortCounters) (s : State) : State :=
  match port with
  | .north => { s with northCounters := change s.northCounters }
  | .south => { s with southCounters := change s.southCounters }

/-- The good-frames counter incremented, wrapping (R175). -/
def PortCounters.addGood (c : PortCounters) : PortCounters := { c with goodFrames := c.goodFrames + 1 }

/-- The counter of a failed check incremented, wrapping (R171, R175). -/
def PortCounters.addError (e : FrameError) (c : PortCounters) : PortCounters :=
  match e with
  | .check => { c with checkErrors := c.checkErrors + 1 }
  | .length => { c with lengthErrors := c.lengthErrors + 1 }
  | .kind => { c with unknownKinds := c.unknownKinds + 1 }
  | .misdirected => { c with misdirected := c.misdirected + 1 }

/-- A data byte at a receiver: ignored in IDLE; in IN_FRAME appended to the bytes held, of which at most 54 are stored while the
count goes on (R169). -/
def Receiver.takeByte (r : Receiver) (b : Byte) : Receiver :=
  match r with
  | .idle => .idle
  | .inFrame held taken =>
    .inFrame (if held.length < Config.frameBytesMax then held ++ [b] else held) (taken + 1)

/-- Data bytes at a receiver, in order (R169). -/
def Receiver.takeBytes (r : Receiver) (bs : List Byte) : Receiver := bs.foldl Receiver.takeByte r

/-- A receiver IN_FRAME: as it stands when it is, and after a start symbol when it is IDLE (R169). -/
def Receiver.opened : Receiver → Receiver
  | .idle => .inFrame [] 0
  | .inFrame held taken => .inFrame held taken

/-- The count of data bytes a receiver has taken in its frame. -/
def Receiver.taken : Receiver → Nat
  | .idle => 0
  | .inFrame _ n => n

/-- A start symbol and the data bytes that follow it: in IDLE a frame begins; in IN_FRAME the bytes held are discarded and
counted as a length error, and a new frame begins (R169). -/
def State.takeStart (port : Port) (data : List Byte) (s : State) : State :=
  let s := match s.receiver port with
    | .idle => s
    | .inFrame _ _ => s.countPort port (PortCounters.addError .length)
  s.setReceiver port (Receiver.takeBytes (.inFrame [] 0) data)

/-- A command that the part takes only while it is not held by RST_N: between assertion and release it takes no frames,
requests or expiries, and symbols are ignored (R187, R169). -/
def State.whileRunning (change : State → State) (s : State) : State :=
  if s.phase = .running then change s else s

end Sys2Proof.Machine
end

