-- ==== Sys2Proof/Machine/CaptureUnit.lean ====
section
/-! DEFINITION. The Capture Unit: elements, triggers, abort, and the capture requests (chapter 8). -/

namespace Sys2Proof.Machine

open Sys2Proof

/-- The record put into IDLE: the buffer emptied; channel address, trigger index and trigger time absent (R147). DEDUCED
(log entry 18): the counts and the trigger mode stay, unused until the next arm sets them. -/
def Capture.toIdle (c : Capture) : Capture :=
  { c with state := .idle, channel := none, triggerIndex := none, triggerTime := none, buffer := [] }

/-- The record triggered: the trigger index becomes the held count (R150). -/
def Capture.triggered (time : Time) (c : Capture) : Capture :=
  { c with state := .triggered, triggerIndex := some c.buffer.length, triggerTime := some time }

/-- The ring of pre count with an element appended, the oldest removed when it is full; a pre count of 0 keeps none (R149). -/
def Capture.ring (e : Element) (c : Capture) : Capture :=
  if c.preCount = 0 then c
  else { c with buffer := (if c.buffer.length = c.preCount then c.buffer.drop 1 else c.buffer) ++ [e] }

/-- The held count at which the fill of a triggered capture ends (R149). -/
def Capture.fillCount (c : Capture) : Nat := c.triggerIndex.getD 0 + c.postCount

/-- An element appended to a triggered capture, which becomes FULL when the held count reaches the fill count (R149). -/
def Capture.append (e : Element) (c : Capture) : Capture :=
  { c with
    buffer := c.buffer ++ [e]
    state := if c.buffer.length + 1 = c.fillCount then .full else .triggered }

/-- NOTICE CAPTURE_DONE (R155). -/
def Capture.doneNotice (c : Capture) : Notice :=
  { kind := .captureDone, addr := c.channel.getD 0, detail := BitVec.ofNat 16 c.buffer.length,
    time := c.triggerTime.getD 0 }

/-- NOTICE CAPTURE_ABORTED, with the held count at the abort (R155). -/
def Capture.abortNotice (time : Time) (c : Capture) : Notice :=
  { kind := .captureAborted, addr := c.channel.getD 0, detail := BitVec.ofNat 16 c.buffer.length, time }

/-- A capture element of a channel taken: kept in the ring, appended, or let go (R149). -/
def State.takeElement (addr : ChannelAddr) (e : Element) (s : State) : State :=
  if s.capture.channel = some addr then
    match s.capture.state with
    | .idle | .full => s
    | .armed => { s with capture := s.capture.ring e }
    | .triggered =>
      let c := s.capture.append e
      if c.state = .full then State.offerNotice c.doneNotice { s with capture := c }
      else { s with capture := c }
  else s

/-- A raise notice taken: the trigger of an ARMED capture on the address with mode ON_RAISE, let go otherwise (R150, R98). -/
def State.takeRaiseNotice (addr : ChannelAddr) (time : Time) (s : State) : State :=
  if s.capture.state = .armed ∧ s.capture.trigger = .onRaise ∧ s.capture.channel = some addr then
    { s with capture := s.capture.triggered time }
  else s

/-- An unfinished capture aborted: IDLE, and NOTICE CAPTURE_ABORTED offered (R152, R154). -/
def State.abortCapture (s : State) : State :=
  State.offerNotice (s.capture.abortNotice s.now) { s with capture := s.capture.toIdle }

/-- The deletion of a row reaches the capture: one in ARMED or TRIGGERED on the address is aborted (R154). -/
def State.captureRowDeleted (addr : ChannelAddr) (s : State) : State :=
  if s.capture.channel = some addr ∧ (s.capture.state = .armed ∨ s.capture.state = .triggered) then s.abortCapture
  else s

/-! ### The capture requests -/

/-- The answer CAPTURE_STATE with the state code (R127). -/
def captureStateAnswer (s : State) : Answer := { status := .captureState, data := [s.capture.state.code] }

/-- CAPTURE_ARM (R148). -/
def doCaptureArm (args : List Byte) (s : State) : State × Answer :=
  let addr := halfAt args 0
  let pre := (halfAt args 2).toNat
  let post := (halfAt args 4).toNat
  match triggerModeOf (byteAt args 6) with
  | none => (s, { status := .badRequest, data := [] })
  | some mode =>
    if 511 < pre ∨ post = 0 ∨ 512 < post ∨ Config.captureCapacity < pre + post then
      (s, { status := .badRequest, data := [] })
    else if s.capture.state ≠ .idle then (s, captureStateAnswer s)
    else if (rowAt s.rows addr).all (fun r => r.config.policy == .block) then
      (s, { status := .notFound, data := [] })
    else
      ({ s with capture := { state := .armed, channel := some addr, preCount := pre, postCount := post, trigger := mode,
                             triggerIndex := none, triggerTime := none, buffer := [] } },
        { status := .ok, data := [] })

/-- CAPTURE_TRIGGER (R150). -/
def doCaptureTrigger (s : State) : State × Answer :=
  if s.capture.state = .armed then
    ({ s with capture := s.capture.triggered s.now },
      { status := .ok, data := be16 (BitVec.ofNat 16 s.capture.buffer.length) })
  else (s, captureStateAnswer s)

/-- CAPTURE_ABORT (R152). -/
def doCaptureAbort (s : State) : State × Answer :=
  let held : Answer := { status := .ok, data := be16 (BitVec.ofNat 16 s.capture.buffer.length) }
  match s.capture.state with
  | .armed | .triggered => (s.abortCapture, held)
  | .full => ({ s with capture := s.capture.toIdle }, held)
  | .idle => (s, { status := .ok, data := be16 0#16 })

/-- CAPTURE_RELEASE (R153). -/
def doCaptureRelease (s : State) : State × Answer :=
  if s.capture.state = .full then ({ s with capture := s.capture.toIdle }, { status := .ok, data := [] })
  else (s, captureStateAnswer s)

/-- READ_CAPTURE (R151). -/
def doReadCapture (args : List Byte) (s : State) : State × Answer :=
  let offset := (halfAt args 0).toNat
  let count := (byteAt args 2).toNat
  if s.capture.state ≠ .full then (s, captureStateAnswer s)
  else if count = 0 ∨ 7 < count then (s, { status := .badRequest, data := [] })
  else if s.capture.buffer.length < offset + count then (s, { status := .badRequest, data := [] })
  else
    (s, { status := .ok,
          data := be16 (BitVec.ofNat 16 (s.capture.triggerIndex.getD 0)) ++
            ((s.capture.buffer.drop offset).take count).flatMap elementImage })

end Sys2Proof.Machine
end

