-- ==== Sys2Proof/Machine/AlarmUnit.lean ====
section
/-! DEFINITION. The Alarm Unit and the Trip Latch's release: raises, clears, retirements, acknowledgements, the Overflow
Record (chapter 5, R69). -/

namespace Sys2Proof.Machine

open Sys2Proof

/-- The episode number after one: from 65535 to 1 (R83). -/
def nextEpisode (e : BitVec 16) : BitVec 16 := if e = 65535#16 then 1#16 else e + 1

/-- The extreme value a raise that begins an episode gives: its value; 0 for STALE (R84, R90). -/
def firstExtreme (kind : AlarmKind) (v : Value) : Value :=
  match kind with
  | .stale => 0
  | .low | .high | .trip => v

/-- The extreme value after a raise from CLEAR_UNACK: whichever lies farther beyond the limit; 0 for STALE (R90). -/
def furtherExtreme (kind : AlarmKind) (held v : Value) : Value :=
  match kind with
  | .high | .trip => if held.toInt < v.toInt then v else held
  | .low => if v.toInt < held.toInt then v else held
  | .stale => 0

/-- The entry a raise creates, before its report is owed (R84). -/
def newEntry (addr : ChannelAddr) (kind : AlarmKind) (time : Time) (v : Value) (episode : BitVec 16) : AlarmEntry :=
  { addr, kind, state := .activeUnack, episode, occurrence := 1, cause := none, firstActive := time, lastChange := time,
    extreme := firstExtreme kind v, reportOwed := true }

/-- An entry in CLEAR_UNACK raised again in the same episode (R85, R90). -/
def AlarmEntry.reraised (time : Time) (v : Value) (e : AlarmEntry) : AlarmEntry :=
  { e with state := .activeUnack, occurrence := satInc 255 e.occurrence,
           extreme := furtherExtreme e.kind e.extreme v, lastChange := time, reportOwed := true }

/-- A CLOSED entry reopened in a new episode; it keeps its position (R85). -/
def AlarmEntry.reopened (time : Time) (v : Value) (episode : BitVec 16) (e : AlarmEntry) : AlarmEntry :=
  { e with state := .activeUnack, episode, occurrence := 1, cause := none, firstActive := time, lastChange := time,
           extreme := firstExtreme e.kind v, reportOwed := true }

/-- An entry put into a state, with its cause, at a time; it owes a report (R86, R87, R89, R90). -/
def AlarmEntry.moved (state : AlarmState) (cause : Option Cause) (time : Time) (e : AlarmEntry) : AlarmEntry :=
  { e with state, cause, lastChange := time, reportOwed := true }

/-- A change to the entry of a pair that owes a report, with the reference placed (R90, R91). -/
def State.changeAlarm (addr : ChannelAddr) (kind : AlarmKind) (change : AlarmEntry → AlarmEntry) (s : State) : State :=
  State.placeReference (.entry addr kind) { s with alarms := changeEntry s.alarms addr kind change }

/-- The Overflow Record after a lost raise (R94). -/
def OverflowRecord.lose (time : Time) (o : OverflowRecord) : OverflowRecord :=
  { lostCount := satInc Config.countMax o.lostCount
    state := .pending
    firstLost := if o.state = .clear then some time else o.firstLost
    lastChange := time
    reportOwed := true }

/-- A raise acts on the Alarm Table (R84, R85, R94). DEDUCED (log entry 20), safe: a raise that found an entry in ACTIVE_UNACK
or ACTIVE_ACK, which R85 says does not arise, would leave the table as it is. -/
def State.raiseEntry (addr : ChannelAddr) (kind : AlarmKind) (time : Time) (v : Value) (s : State) : State :=
  match entryAt s.alarms addr kind with
  | none =>
    if s.alarms.length < Config.alarmCapacity then
      State.placeReference (.entry addr kind)
        { s with alarms := s.alarms ++ [newEntry addr kind time v s.episode], episode := nextEpisode s.episode }
    else State.placeReference .overflow { s with overflow := s.overflow.lose time }
  | some e =>
    match e.state with
    | .clearUnack => s.changeAlarm addr kind (AlarmEntry.reraised time v)
    | .closed =>
      State.changeAlarm addr kind (AlarmEntry.reopened time v s.episode) { s with episode := nextEpisode s.episode }
    | .activeUnack | .activeAck => s

/-- A raise taken: the table or the Overflow Record changes, then the raise notice goes to the Capture Unit (R84, R98). -/
def State.takeRaise (addr : ChannelAddr) (kind : AlarmKind) (time : Time) (v : Value) (s : State) : State :=
  (s.raiseEntry addr kind time v).takeRaiseNotice addr time

/-- A clear taken (R86). -/
def State.takeClear (addr : ChannelAddr) (kind : AlarmKind) (time : Time) (s : State) : State :=
  match entryAt s.alarms addr kind with
  | none => s
  | some e =>
    match e.state with
    | .activeUnack => s.changeAlarm addr kind (AlarmEntry.moved .clearUnack none time)
    | .activeAck => s.changeAlarm addr kind (AlarmEntry.moved .closed (some .cleared) time)
    | .clearUnack | .closed => s

/-- An event issued by the engine taken by the Alarm Unit (R20). -/
def State.takeAlarmEvent (s : State) (e : AlarmEvent) : State :=
  match e with
  | .raise addr kind time v => s.takeRaise addr kind time v
  | .clear addr kind time => s.takeClear addr kind time

/-- The events an arrival or expiry issued, taken at its close in the order issued (R20). -/
def State.takeAlarmEvents (es : List AlarmEvent) (s : State) : State := es.foldl State.takeAlarmEvent s

/-- The kinds of the entries of an address, in table order (R89). -/
def kindsOf (alarms : List AlarmEntry) (addr : ChannelAddr) : List AlarmKind :=
  (alarms.filter (fun e => e.addr == addr)).map (·.kind)

/-- The retirement of a row's entries: each becomes CLOSED with cause RETIRED and owes a report, in table order (R89). -/
def State.retire (addr : ChannelAddr) (s : State) : State :=
  (kindsOf s.alarms addr).foldl
    (fun s kind => s.changeAlarm addr kind (AlarmEntry.moved .closed (some .retired) s.now)) s

/-! ### ACK_ALARM and TRIP_RELEASE -/

/-- The answer OK with an alarm state code (R87). -/
def ackAnswer (state : AlarmState) : Answer := { status := .ok, data := [state.code] }

/-- An acknowledgement of kind LOW, HIGH, TRIP or STALE (R87). -/
def ackEntry (addr : ChannelAddr) (kind : AlarmKind) (episode : BitVec 16) (s : State) : State × Answer :=
  match entryAt s.alarms addr kind with
  | none => (s, { status := .notFound, data := [] })
  | some e =>
    if e.episode ≠ episode then (s, { status := .staleEpisode, data := be16 e.episode })
    else
      match e.state with
      | .activeUnack => (s.changeAlarm addr kind (AlarmEntry.moved .activeAck none s.now), ackAnswer .activeAck)
      | .clearUnack => (s.changeAlarm addr kind (AlarmEntry.moved .closed (some .acked) s.now), ackAnswer .closed)
      | .activeAck => (s, ackAnswer .activeAck)
      | .closed => (s, ackAnswer .closed)

/-- An acknowledgement of the Overflow Record (R95). -/
def ackOverflow (s : State) : State × Answer :=
  match s.overflow.state with
  | .pending =>
    (State.placeReference .overflow
        { s with overflow := { lostCount := 0, state := .clear, firstLost := none, lastChange := s.now,
                               reportOwed := true } },
      { status := .ok, data := OverflowState.clear.code :: be16 (BitVec.ofNat 16 s.overflow.lostCount) })
  | .clear => (s, { status := .ok, data := OverflowState.clear.code :: be16 0#16 })

/-- ACK_ALARM, with the Alarm Unit's checks of its arguments (R87, R95). -/
def doAckAlarm (args : List Byte) (s : State) : State × Answer :=
  let addr := halfAt args 0
  let code := byteAt args 2
  let episode := halfAt args 3
  if code = overflowCode then
    if addr ≠ 0xFFFF#16 ∨ episode ≠ 0 then (s, { status := .badRequest, data := [] }) else ackOverflow s
  else
    match alarmKindOf code with
    | none => (s, { status := .badRequest, data := [] })
    | some kind => if episode = 0 then (s, { status := .badRequest, data := [] }) else ackEntry addr kind episode s

/-- Whether a row holds the Trip Latch: its trip output is enabled and its TRIP active (R69). -/
def Row.holdsLatch (r : Row) : Bool := r.config.tripOutput && r.rt.trip.active

/-- TRIP_RELEASE (R69). -/
def doTripRelease (s : State) : State × Answer :=
  match s.tripLatch with
  | .clear => (s, { status := .ok, data := [] })
  | .set =>
    match s.rows.filter Row.holdsLatch with
    | [] => ({ s with tripLatch := .clear }, { status := .ok, data := [] })
    | r :: rest => (s, { status := .stillActive, data := be16 r.config.addr ++ [byteOf (rest.length + 1)] })

end Sys2Proof.Machine
end

