-- ==== Sys2Proof/Machine/TableStore.lean ====
section
/-! DEFINITION. The Table Store: row insertion, replacement and deletion with what they do to the other blocks, commits, the
Class Table, and the requests that read and write the tables (chapters 1 and 7). -/

namespace Sys2Proof.Machine

open Sys2Proof

/-! ### The Channel Table as a list in address order (R1) -/

/-- A row placed in ascending order of address (R1, R16). -/
def insertRow (r : Row) : List Row → List Row
  | [] => [r]
  | x :: xs => if r.config.addr < x.config.addr then r :: x :: xs else x :: insertRow r xs

/-- The row of an address changed in its place. -/
def changeRow (rows : List Row) (addr : ChannelAddr) (change : Row → Row) : List Row :=
  rows.map (fun r => if r.config.addr == addr then change r else r)

/-- The row of an address removed (R18). -/
def deleteRow (rows : List Row) (addr : ChannelAddr) : List Row := rows.filter (fun r => r.config.addr != addr)

/-- The runtime record of an address set. -/
def State.setRecord (addr : ChannelAddr) (rt : Runtime) (s : State) : State :=
  { s with rows := changeRow s.rows addr (fun r => { r with rt }) }

/-- A row of a configuration with a fresh record (R15). -/
def freshRow (c : RowConfig) (now : Time) : Row := { config := c, rt := freshRecord c now }

/-- The Enrolment List without the entry of an address (R16, R119). -/
def removeEnrol (enrol : List EnrolEntry) (addr : ChannelAddr) : List EnrolEntry := enrol.filter (fun e => e.addr != addr)

/-- An insert: the row with a fresh record in its place, and the Enrolment List entry of the address removed (R16). -/
def State.insertConfig (c : RowConfig) (s : State) : State :=
  { s with rows := insertRow (freshRow c s.now) s.rows, enrol := removeEnrol s.enrol c.addr }

/-- A replacement: the configuration replaced, a fresh record, the entries of the address retired (R17). -/
def State.replaceConfig (c : RowConfig) (s : State) : State :=
  State.retire c.addr { s with rows := changeRow s.rows c.addr (fun _ => freshRow c s.now) }

/-- A deletion: the row and its record removed, the entries of the address retired, an unfinished capture on it aborted (R18).
DEDUCED (log entry 16), unsafe: in that order, which is R18's own list. -/
def State.deleteConfig (addr : ChannelAddr) (s : State) : State :=
  State.captureRowDeleted addr (State.retire addr { s with rows := deleteRow s.rows addr })

/-! ### Staging and commit (R135 to R138) -/

/-- The address an item names (R135). -/
def StagedItem.addr : StagedItem → ChannelAddr
  | .row c => c.addr
  | .delete a => a

/-- The class of a staged item against the Channel Table (R137). -/
inductive ItemClass where
  | insert
  | replacement
  | deletion
  | noOp
  deriving DecidableEq, Repr

/-- An item classified against the Channel Table (R137). -/
def classify (rows : List Row) (item : StagedItem) : ItemClass :=
  match item, (rowAt rows item.addr).isSome with
  | .row _, true => .replacement
  | .row _, false => .insert
  | .delete _, true => .deletion
  | .delete _, false => .noOp

/-- The number of items of a class. -/
def countClass (rows : List Row) (cls : ItemClass) (items : List StagedItem) : Nat :=
  items.countP (fun i => classify rows i == cls)

/-- The rows after the commit: the rows held, plus the inserts, minus the deletions (R137). -/
def rowsAfter (rows : List Row) (items : List StagedItem) : Nat :=
  rows.length + countClass rows .insert items - countClass rows .deletion items

/-- The position of the first item at which the running count exceeds 128 (R137); the position past the end when there is
none, which R137 says does not arise where it is asked for. -/
def overflowPosition (rows : List Row) : Nat → Nat → List StagedItem → Nat
  | _, position, [] => position
  | count, position, item :: rest =>
    let count := match classify rows item with
      | .insert => count + 1
      | .deletion => count - 1
      | .replacement | .noOp => count
    if Config.rowCapacity < count then position else overflowPosition rows count (position + 1) rest

/-- One staged item applied (R138). -/
def State.applyItem (s : State) (item : StagedItem) : State :=
  match item with
  | .row c => if (rowAt s.rows c.addr).isSome then s.replaceConfig c else s.insertConfig c
  | .delete a => if (rowAt s.rows a).isSome then s.deleteConfig a else s

/-- COMMIT (R137, R138). -/
def doCommit (s : State) : State × Answer :=
  if Config.rowCapacity < rowsAfter s.rows s.staging then
    (s, { status := .tableFull, data := [byteOf (overflowPosition s.rows s.rows.length 0 s.staging)] })
  else
    ({ s.staging.foldl State.applyItem s with staging := [] },
      { status := .ok,
        data := [byteOf (countClass s.rows .insert s.staging), byteOf (countClass s.rows .replacement s.staging),
          byteOf (countClass s.rows .deletion s.staging)] })

/-- The position of an item for an address, or the number of items (R135). -/
def stagedPosition (items : List StagedItem) (addr : ChannelAddr) : Nat := items.findIdx (fun i => i.addr == addr)

/-- An item placed in the Staging List: in place of the item for its address, or appended when there is room (R135, R136). -/
def stageItem (item : StagedItem) (s : State) : State × Answer :=
  let position := stagedPosition s.staging item.addr
  if position < s.staging.length then
    ({ s with staging := s.staging.set position item },
      { status := .ok, data := [byteOf position, byteOf s.staging.length] })
  else if s.staging.length < Config.stagingCapacity then
    ({ s with staging := s.staging ++ [item] },
      { status := .ok, data := [byteOf position, byteOf (s.staging.length + 1)] })
  else (s, { status := .stagingFull, data := [] })

/-- STAGE_ROW: the image validated, then placed (R10, R135). -/
def doStageRow (args : List Byte) (s : State) : State × Answer :=
  match rowFault (rowOfImage args) (byteAt args 5) with
  | some reason => (s, { status := .badRow, data := [reason] })
  | none => stageItem (.row (rowOfImage args)) s

/-- STAGE_DELETE (R136). -/
def doStageDelete (args : List Byte) (s : State) : State × Answer := stageItem (.delete (halfAt args 0)) s

/-- DISCARD (R136). -/
def doDiscard (s : State) : State × Answer :=
  ({ s with staging := [] }, { status := .ok, data := [byteOf s.staging.length] })

/-! ### The Class Table and the part settings (R140, R141) -/

/-- The class entry of a code, or none (R11). -/
def classAt (classes : List ClassEntry) (code : Byte) : Option ClassEntry := classes.find? (fun c => c.code == code)

/-- A class placed in ascending order of code (R11). -/
def insertClass (c : ClassEntry) : List ClassEntry → List ClassEntry
  | [] => [c]
  | x :: xs => if c.code < x.code then c :: x :: xs else x :: insertClass c xs

/-- WRITE_CLASS (R140). -/
def doWriteClass (args : List Byte) (s : State) : State × Answer :=
  let c := classOfImage args
  if c.code = 0 then (s, { status := .badRequest, data := [] })
  else if classImageOk args = false then (s, { status := .badRow, data := [0x08] })
  else if (classAt s.classes c.code).isSome then
    ({ s with classes := s.classes.map (fun x => if x.code == c.code then c else x) }, { status := .ok, data := [0x01] })
  else if s.classes.length < Config.classCapacity then
    ({ s with classes := insertClass c s.classes }, { status := .ok, data := [0x00] })
  else (s, { status := .classFull, data := [] })

/-- DELETE_CLASS (R140). -/
def doDeleteClass (args : List Byte) (s : State) : State × Answer :=
  let code := byteAt args 0
  if (classAt s.classes code).isSome then
    ({ s with classes := s.classes.filter (fun c => c.code != code) }, { status := .ok, data := [] })
  else (s, { status := .notFound, data := [] })

/-- The settings four argument bytes give, or none when one lies outside its values (R141). -/
def settingsOf (args : List Byte) : Option Settings :=
  match enrolModeOf (byteAt args 0), unknownPolicyOf (byteAt args 1) with
  | some mode, some unknown =>
    let timeout := (byteAt args 2).toNat
    let retries := (byteAt args 3).toNat
    if 5 ≤ timeout ∧ timeout ≤ 250 ∧ retries ≤ 7 then
      some { mode, unknown, probeTimeout := timeout, probeRetries := retries }
    else none
  | _, _ => none

/-- SET_PART; mode OFF removes every Enrolment List entry (R141, R121). -/
def doSetPart (args : List Byte) (s : State) : State × Answer :=
  match settingsOf args with
  | none => (s, { status := .badRequest, data := [] })
  | some settings =>
    ({ s with settings, enrol := if settings.mode = .off then [] else s.enrol }, { status := .ok, data := [] })

/-! ### The reads (R143, R144) -/

/-- LIST_ROWS (R144). -/
def doListRows (args : List Byte) (s : State) : State × Answer :=
  (s, { status := .ok,
        data := byteOf s.rows.length ::
          ((s.rows.drop (byteAt args 0).toNat).take 20).flatMap (fun r => be16 r.config.addr) })

/-- READ_ROW (R144). -/
def doReadRow (args : List Byte) (s : State) : State × Answer :=
  match rowAt s.rows (halfAt args 0) with
  | some r => (s, { status := .ok, data := rowImage r.config })
  | none => (s, { status := .notFound, data := [] })

/-- READ_STATE (R144). -/
def doReadState (args : List Byte) (s : State) : State × Answer :=
  match rowAt s.rows (halfAt args 0) with
  | some r => (s, { status := .ok, data := runtimeImage r.config.addr r.rt })
  | none => (s, { status := .notFound, data := [] })

/-- READ_ALARMS (R144). -/
def doReadAlarms (args : List Byte) (s : State) : State × Answer :=
  let start := (byteAt args 0).toNat
  (s, { status := .ok,
        data := byteOf s.alarms.length :: ((if start = 0 then overflowImage s.overflow else []) ++
          ((s.alarms.drop start).take 2).flatMap alarmImage) })

/-- READ_CLASS (R144). -/
def doReadClass (args : List Byte) (s : State) : State × Answer :=
  match classAt s.classes (byteAt args 0) with
  | some c => (s, { status := .ok, data := classImage c })
  | none => (s, { status := .notFound, data := [] })

/-- READ_ENROLMENT: up to 4 entries from the start position; a past deadline's remaining is a free value (R144, R181;
log entry 17). -/
def doReadEnrolment (args : List Byte) (s : State) : State × Answer :=
  let start := (byteAt args 0).toNat
  ({ s with freeReads := s.freeReads + 1 },
    { status := .ok,
      data := byteOf s.enrol.length ::
        (((s.enrol.drop start).take 4).zipIdx start).flatMap
          (fun p => enrolImage s.now (Config.overdueEntry s.freeReads p.2) p.1) })

/-- The session items of READ_PART: state, owner, lease remaining; a past deadline's remaining is a free value (R143; log
entry 17). -/
def sessionData (s : State) : List Byte :=
  match s.session with
  | none => [0x00, 0x00] ++ be16 0#16
  | some ses =>
    [0x01, ses.owner] ++ be16 (BitVec.ofNat 16 (remaining ses.deadline s.now (Config.overdueLease s.freeReads)))

/-- The data of READ_PART, 19 bytes (R143, R181). -/
def readPartData (s : State) : List Byte :=
  [s.settings.mode.code, s.settings.unknown.code, byteOf s.settings.probeTimeout, byteOf s.settings.probeRetries] ++
  sessionData s ++
  [byteOf s.rows.length, byteOf s.classes.length, byteOf s.alarms.length, byteOf s.enrol.length,
    byteOf s.staging.length, s.tripLatch.code, s.capture.state.code] ++ be32 s.now

/-- READ_PART (R143). -/
def doReadPart (s : State) : State × Answer :=
  ({ s with freeReads := s.freeReads + 1 }, { status := .ok, data := readPartData s })

/-- READ_COUNTERS (R143, R176). -/
def doReadCounters (args : List Byte) (s : State) : State × Answer :=
  let clear := byteAt args 1
  if clear ≠ 0x00 ∧ clear ≠ 0x01 then (s, { status := .badRequest, data := [] })
  else
    match (byteAt args 0).toNat with
    | 1 => (if clear = 0x01 then { s with northCounters := PortCounters.initial } else s,
        { status := .ok, data := portImage s.northCounters })
    | 2 => (if clear = 0x01 then { s with southCounters := PortCounters.initial } else s,
        { status := .ok, data := portImage s.southCounters })
    | 3 => (if clear = 0x01 then { s with partCounters := PartCounters.initial } else s,
        { status := .ok, data := partImage s.partCounters })
    | _ => (s, { status := .badRequest, data := [] })

end Sys2Proof.Machine
end

