-- ==== Sys2Proof/Machine/EnrolmentUnit.lean ====
section
/-! DEFINITION. The Enrolment Unit: entries, probes, descriptors, the row built from a template, expiries (chapter 6). -/

namespace Sys2Proof.Machine

open Sys2Proof

/-- The entry of an address, or none (R105). -/
def enrolAt (enrol : List EnrolEntry) (addr : ChannelAddr) : Option EnrolEntry := enrol.find? (fun e => e.addr == addr)

/-- The entry of an address changed in its place. -/
def changeEnrol (enrol : List EnrolEntry) (addr : ChannelAddr) (change : EnrolEntry → EnrolEntry) : List EnrolEntry :=
  enrol.map (fun e => if e.addr == addr then change e else e)

/-- A new entry in PROBING that owes a probe (R108). -/
def newEnrol (addr : ChannelAddr) (now : Time) : EnrolEntry :=
  { addr, state := .probing, attempts := 0, probeOwed := true, deadline := none, reason := none, created := now }

/-- A new entry at the end of the list; its probe is offered to the South Arbiter (R108, R109, R110). -/
def State.createEnrol (addr : ChannelAddr) (s : State) : State :=
  State.southJoined { s with enrol := s.enrol ++ [newEnrol addr s.now] }

/-- An unknown-address arrival (R108). -/
def State.unknownArrival (addr : ChannelAddr) (s : State) : State :=
  if s.settings.mode = .auto ∧ (enrolAt s.enrol addr).isNone then
    if s.enrol.length < Config.enrolCapacity then s.createEnrol addr
    else { s with partCounters := { s.partCounters with enrolListFull := s.partCounters.enrolListFull + 1 } }
  else s

/-- An entry returned to PROBING by ENROL; it keeps its position and created time (R109). -/
def EnrolEntry.restarted (e : EnrolEntry) : EnrolEntry :=
  { e with state := .probing, attempts := 0, probeOwed := true, deadline := none, reason := none }

/-- ENROL, decided by the first line of R109's table that applies. -/
def doEnrol (args : List Byte) (s : State) : State × Answer :=
  let addr := halfAt args 0
  if s.settings.mode = .off then (s, { status := .mode, data := [] })
  else if (rowAt s.rows addr).isSome then (s, { status := .exists, data := [] })
  else
    match enrolAt s.enrol addr with
    | some e =>
      if e.state = .probing then (s, { status := .ok, data := [0x02] })
      else
        (State.southJoined { s with enrol := changeEnrol s.enrol addr EnrolEntry.restarted },
          { status := .ok, data := [0x01] })
    | none =>
      if s.enrol.length < Config.enrolCapacity then (s.createEnrol addr, { status := .ok, data := [0x00] })
      else (s, { status := .tableFull, data := [] })

/-! ### The row built from a descriptor and its class (R115 to R117) -/

/-- The floor of span times percent over 100 (R116). -/
def percentOffset (span percent : Nat) : Nat := span * percent / 100

/-- The span of a descriptor's range, on the full integer values (R116). -/
def Descriptor.span (d : Descriptor) : Nat := (d.rangeHigh.toInt - d.rangeLow.toInt).toNat

/-- The limit of a percentage of the range (R116). -/
def Descriptor.limit (d : Descriptor) (percent : Nat) : Value :=
  BitVec.ofInt 16 (d.rangeLow.toInt + percentOffset d.span percent)

/-- The stale window of a built row (R117). -/
def builtWindow (mode : StaleMode) (period : Nat) : Nat :=
  match mode with
  | .none => 0
  | .fixed w => w
  | .auto => if period = 0 then 0 else min 60000 (max 10 (4 * period))

/-- The row configuration built from a descriptor and its class (R115). -/
def buildRow (d : Descriptor) (c : ClassEntry) : RowConfig :=
  { addr := d.addr
    origin := .enrolled
    classCode := some d.classCode
    policy := c.policy
    depth := c.depth
    lowLimit := c.lowPercent.map d.limit
    highLimit := c.highPercent.map d.limit
    hysteresis := percentOffset d.span c.hysteresisPercent
    persistence := c.persistence
    tripLimit := c.tripPercent.map d.limit
    tripPersistence := c.tripPersistence
    tripOutput := c.tripOutput
    staleWindow := builtWindow c.staleMode d.period.toNat
    gate := none
    range := some { low := d.rangeLow, high := d.rangeHigh } }

/-- The checks of a taken descriptor, in order: the reason of the first that fails, or the class it builds from (R114). -/
def checkDescriptor (d : Descriptor) (s : State) : Except RefuseReason ClassEntry :=
  if d.rangeHigh.toInt < d.rangeLow.toInt then .error .malformed
  else
    match classAt s.classes d.classCode with
    | none => .error .unknownClass
    | some c => if Config.rowCapacity ≤ s.rows.length then .error .tableFull else .ok c

/-- An entry refused at a time (R114). -/
def EnrolEntry.refused (reason : RefuseReason) (now : Time) (e : EnrolEntry) : EnrolEntry :=
  { e with state := .refused, probeOwed := false, deadline := some (now + Config.holdTime), reason := some reason }

/-- A descriptor that is taken: the row is inserted and ENROLLED noticed, or the entry is refused and REFUSED noticed
(R114, R119, R122). -/
def State.takeDescriptor (d : Descriptor) (s : State) : State :=
  match checkDescriptor d s with
  | .error reason =>
    State.offerNotice { kind := .refused, addr := d.addr, detail := reason.code.setWidth 16, time := s.now }
      { s with enrol := changeEnrol s.enrol d.addr (EnrolEntry.refused reason s.now) }
  | .ok c =>
    State.offerNotice { kind := .enrolled, addr := d.addr, detail := d.classCode.setWidth 16, time := s.now }
      (s.insertConfig (buildRow d c))

/-- A descriptor at the Enrolment Unit: taken by an entry in PROBING or FAILED (R113). -/
def State.descriptorArrived (d : Descriptor) (s : State) : State :=
  match enrolAt s.enrol d.addr with
  | none => s
  | some e =>
    match e.state with
    | .probing | .failed => s.takeDescriptor d
    | .refused => s

/-! ### Probe completions and expiries (R111, R112, R120) -/

/-- An entry whose probe has completed: its wait starts (R111). -/
def EnrolEntry.probed (now : Time) (timeout : Nat) (e : EnrolEntry) : EnrolEntry :=
  if e.state = .probing ∧ e.probeOwed = true then
    { e with attempts := e.attempts + 1, probeOwed := false, deadline := some (after now timeout) }
  else e

/-- A probe's transmission completes at the Enrolment Unit (R111). -/
def State.probeCompleted (addr : ChannelAddr) (s : State) : State :=
  { s with enrol := changeEnrol s.enrol addr (EnrolEntry.probed s.now s.settings.probeTimeout) }

/-- Whether an entry's deadline is present and reached (R185). -/
def EnrolEntry.due (now : Time) (e : EnrolEntry) : Bool := e.deadline.any (reached now)

/-- The probe wait of an entry in PROBING expires: another probe is owed, or the entry becomes FAILED and PROBE_FAILED is
noticed (R112, R122). -/
def State.probeWaitExpired (e : EnrolEntry) (s : State) : State :=
  if e.attempts ≤ s.settings.probeRetries then
    State.southJoined
      { s with enrol := changeEnrol s.enrol e.addr (fun x => { x with probeOwed := true, deadline := none }) }
  else
    State.offerNotice
      { kind := .probeFailed, addr := e.addr, detail := BitVec.ofNat 16 e.attempts, time := s.now }
      { s with enrol := changeEnrol s.enrol e.addr
                (fun x => { x with state := .failed, deadline := some (s.now + Config.holdTime) }) }

/-- The expiry of a probe wait, when the entry is in PROBING and its deadline is reached; otherwise there is no expiry
(R112, R185). -/
def State.expireProbeWait (addr : ChannelAddr) (s : State) : State :=
  match enrolAt s.enrol addr with
  | none => s
  | some e => if e.state = .probing ∧ e.due s.now = true then s.probeWaitExpired e else s

/-- The expiry of a hold, when the entry is in FAILED or REFUSED and its deadline is reached: the entry is removed (R120). -/
def State.expireHold (addr : ChannelAddr) (s : State) : State :=
  match enrolAt s.enrol addr with
  | none => s
  | some e =>
    if e.state ≠ .probing ∧ e.due s.now = true then { s with enrol := removeEnrol s.enrol addr } else s

end Sys2Proof.Machine
end

