-- ==== Sys2Proof/Machine/Engine.lean ====
section
/-! DEFINITION. The Conditioning Engine: a sample's arrival from the lookup to its last hand-off, and the stale expiry
(chapters 2 and 4). -/

namespace Sys2Proof.Machine

open Sys2Proof

/-- A sample whose address has no row: the unknown policy, and the notice to the Enrolment Unit (R24, R25). -/
def State.unknownSample (f : Frame) (s : State) : State :=
  State.unknownArrival (sampleOf f).addr
    (match s.settings.unknown with
      | .forward => s.offerForward f
      | .drop => s)

/-- The frame a conditioned arrival offers at step 5: the raw frame under PASS, the DIGEST frame of a digest completed under
DIGEST, nothing otherwise (R31, R36, R37). -/
def offeredFrame (node : NodeAddr) (c : RowConfig) (f : Frame) (w : Worked) : Option Frame :=
  match c.policy with
  | .pass => some (rawFrame f w.rt.gapPending)
  | .digest =>
    w.digest.map (fun d =>
      digestFrame node c.addr w.rt.digestNumber d c.depth (!w.rt.gateOpen) (w.rt.low.active || w.rt.high.active))
  | .quiet | .block => none

/-- What the outcome of the offer leaves in the record: a discard counts a drop and sets gap pending; a raw frame that joins
clears gap pending (R36, R38, R43). -/
def afterOffer (c : RowConfig) (joined : Bool) (r : Runtime) : Runtime :=
  if joined then (if c.policy = .pass then { r with gapPending := false } else r)
  else { r with dropCount := satInc Config.countMax r.dropCount, gapPending := true }

/-- Step 5: the offer, with what it leaves in the record (R31, R36 to R38). -/
def State.offerStep (c : RowConfig) (f : Frame) (w : Worked) (s : State) : State :=
  match offeredFrame s.node c f w with
  | none => s.setRecord c.addr w.rt
  | some g => State.offerForward g (s.setRecord c.addr (afterOffer c s.forwardRoom w.rt))

/-- The Trip Latch after an arrival: set by a TRIP raise on a row with trip output enabled (R65, R68). -/
def State.latchStep (c : RowConfig) (w : Worked) (s : State) : State :=
  if c.tripOutput = true ∧ w.issued.any AlarmEvent.isTripRaise = true then { s with tripLatch := .set } else s

/-- The capture element of an arrival (R39). -/
def elementOf (m : Sample) (now : Time) : Element :=
  { value := m.value, seq := m.seq, flags := m.flags, arrival := now.extractLsb' 0 16 }

/-- A conditioned arrival that is no duplicate: steps 1 to 6 of R31 in order, then the raises and clears it issued, each taken
by the Alarm Unit (R20, R40). -/
def State.conditionSample (row : Row) (f : Frame) (s : State) : State :=
  let m := sampleOf f
  let w := conditionRecord s.rows row.config s.now m row.rt
  State.takeAlarmEvents w.issued
    (State.takeElement m.addr (elementOf m s.now) (State.offerStep row.config f w (s.latchStep row.config w)))

/-- A duplicate: counted and discarded (R27). -/
def State.duplicateSample (row : Row) (s : State) : State :=
  s.setRecord row.config.addr { row.rt with dupCount := satInc Config.countMax row.rt.dupCount }

/-- The arrival of a SAMPLE at the engine (R22). -/
def State.sampleArrived (f : Frame) (s : State) : State :=
  match rowAt s.rows (sampleOf f).addr with
  | none => s.unknownSample f
  | some row =>
    match row.config.policy with
    | .block => s
    | .pass | .digest | .quiet =>
      if isDuplicate row.rt (sampleOf f) then s.duplicateSample row else s.conditionSample row f

/-- The expiry of a row's stale deadline, when it is present and reached: STALE becomes active, the deadline absent, a STALE
raise with value 0 is issued; otherwise there is no expiry (R73, R185). -/
def State.expireStale (addr : ChannelAddr) (s : State) : State :=
  match rowAt s.rows addr with
  | none => s
  | some row =>
    if row.rt.staleDeadline.any (reached s.now) = true then
      State.takeRaise addr .stale s.now 0 (s.setRecord addr { row.rt with stale := true, staleDeadline := none })
    else s

end Sys2Proof.Machine
end

