-- ==== Sys2Proof/Machine/Resets.lean ====
section
/-! DEFINITION. The four kinds of reset (chapter 11 and the reset section of every chapter). -/

namespace Sys2Proof.Machine

open Sys2Proof

/-- A part freshly out of a power-on reset or a pin reset, apart from what a PRESERVE keeps: every block at its power-on values,
the straps latched, the counter at 0 (R186, R187). The queue of waiting commands and the model's own counter stay. -/
def State.afterPins (straps : Byte) (s : State) : State :=
  { State.reset with node := straps, pending := s.pending, freeReads := s.freeReads }

/-- A power-on reset (R186). With RST_N held low it goes on until the release, and the node address is latched only then
(R183). -/
def State.powerOn (straps : Byte) (rstLow : Bool) (s : State) : State :=
  if rstLow then { s.afterPins s.node with phase := .powerOnHeld } else s.afterPins straps

/-- The assertion of RST_N: transmissions cut off, part-received frames dropped uncounted, the counter at 0; the lines are
released, as State.tripLine and State.alertLine give (R187, R167, R169). A second assertion with no release between is the
same pin reset. DESIGN CHOICE (log entry 10), safe: everything else stands as it stood until the release gives it its value. -/
def State.assertReset (s : State) : State :=
  if s.phase = .running then
    { s with phase := .pinReset, now := 0, northTx := none, southTx := .idle, northRx := .idle, southRx := .idle }
  else s

/-- The rows kept by a reset, each with a fresh record at a time (R15, R21). -/
def freshRows (rows : List Row) (now : Time) : List Row := rows.map (fun r => freshRow r.config now)

/-- The release of RST_N: after a pin reset PRESERVE keeps the tables and settings; after a power-on reset it is not consulted
(R187, R186). A release with no reset in progress is no event. -/
def State.releaseReset (preserve : Bool) (straps : Byte) (s : State) : State :=
  match s.phase with
  | .running => s
  | .powerOnHeld => s.afterPins straps
  | .pinReset =>
    if preserve then
      { s.afterPins straps with rows := freshRows s.rows 0, classes := s.classes, settings := s.settings }
    else s.afterPins straps

/-- What both management resets do: everything but the tables, the settings, the episode counter, the counters, the receivers,
the time and the node address takes its reset value (R145, R188, R104, R124, R146, R157, R167, R77). -/
def State.managementReset (s : State) : State :=
  { s with
    tripLatch := .clear, alarms := [], overflow := OverflowRecord.initial, enrol := [],
    session := none, staging := [], replay := none, capture := Capture.initial,
    forwardQ := [], reportQ := [], noticeQ := [], responseQ := [], commandQ := [],
    guardCount := 0, lostNotices := 0, northTx := none, southTx := .idle }

/-- RESET RUNTIME: every row keeps its configuration and gets a fresh record (R145, R21). -/
def State.resetRuntime (s : State) : State :=
  { s.managementReset with rows := freshRows s.rows s.now }

/-- RESET TABLES: the Channel Table and the Class Table are emptied, the settings kept (R145, R21). -/
def State.resetTables (s : State) : State :=
  { s.managementReset with rows := [], classes := [] }

/-- RESET (R145). -/
def doReset (args : List Byte) (s : State) : State × Answer :=
  match (byteAt args 0).toNat with
  | 1 => (s.resetRuntime, { status := .ok, data := [] })
  | 2 => (s.resetTables, { status := .ok, data := [] })
  | _ => (s, { status := .badRequest, data := [] })

end Sys2Proof.Machine
end

