-- ==== Sys2Proof/Machine/Management.lean ====
section
/-! DEFINITION. The Management Agent: request intake, sessions, the Replay Slot, and the request of each code (chapter 7). -/

namespace Sys2Proof.Machine

open Sys2Proof

/-! ### Sessions (R128 to R132) -/

/-- Whether a node owns the open session (R128). -/
def State.isOwner (node : NodeAddr) (s : State) : Bool := s.session.any (fun ses => ses.owner == node)

/-- Step 1: the lease renewed by a request from the owner (R130). -/
def State.renewLease (source : NodeAddr) (s : State) : State :=
  match s.session with
  | some ses =>
    if ses.owner = source then { s with session := some { ses with deadline := after s.now ses.lease } } else s
  | none => s

/-- The session ended: NONE, the Staging List and the Replay Slot emptied (R128). -/
def State.endSession (s : State) : State := { s with session := none, staging := [], replay := none }

/-- OPEN_SESSION (R129). -/
def doOpenSession (source : NodeAddr) (args : List Byte) (s : State) : State × Answer :=
  let lease := (halfAt args 0).toNat
  if lease < 100 ∨ 10000 < lease then (s, { status := .badRequest, data := [] })
  else
    match s.session with
    | none =>
      ({ s with session := some { owner := source, lease, deadline := after s.now lease }, staging := [],
                replay := none },
        { status := .ok, data := [0x00] })
    | some ses =>
      if ses.owner = source then
        ({ s with session := some { ses with lease, deadline := after s.now lease } },
          { status := .ok, data := [byteOf s.staging.length] })
      else (s, { status := .sessionHeld, data := [ses.owner] })

/-- CLOSE_SESSION (R132). -/
def doCloseSession (source : NodeAddr) (s : State) : State × Answer :=
  match s.session with
  | none => (s, { status := .noSession, data := [] })
  | some ses =>
    if ses.owner = source then (s.endSession, { status := .ok, data := [byteOf s.staging.length] })
    else (s, { status := .sessionHeld, data := [ses.owner] })

/-- NOTICE SESSION_EXPIRED (R131). -/
def expiredNotice (owner : NodeAddr) (discarded : Nat) (time : Time) : Notice :=
  { kind := .sessionExpired, addr := channelAddr 0x00 owner, detail := BitVec.ofNat 16 discarded, time }

/-- The expiry of the lease, when a session is open and its deadline is reached; otherwise there is no expiry (R131, R185). -/
def State.expireLease (s : State) : State :=
  match s.session with
  | none => s
  | some ses =>
    if reached s.now ses.deadline = true then
      State.offerNotice (expiredNotice ses.owner s.staging.length s.now) s.endSession
    else s

/-- Step 5: the answer that refuses a request whose Source does not own the open session; none when it does (R133). -/
def sessionRefusal (source : NodeAddr) (s : State) : Option Answer :=
  match s.session with
  | none => some { status := .noSession, data := [] }
  | some ses => if ses.owner = source then none else some { status := .sessionHeld, data := [ses.owner] }

/-! ### Request intake (R125 to R127, R134) -/

/-- Step 6: the request's own checks and action (R127). -/
def executeRequest (kind : RequestKind) (source : NodeAddr) (args : List Byte) (s : State) : State × Answer :=
  match kind with
  | .readPart => doReadPart s
  | .readCounters => doReadCounters args s
  | .listRows => doListRows args s
  | .readRow => doReadRow args s
  | .readState => doReadState args s
  | .readAlarms => doReadAlarms args s
  | .readClass => doReadClass args s
  | .readCapture => doReadCapture args s
  | .readEnrolment => doReadEnrolment args s
  | .openSession => doOpenSession source args s
  | .closeSession => doCloseSession source s
  | .stageRow => doStageRow args s
  | .stageDelete => doStageDelete args s
  | .discard => doDiscard s
  | .commit => doCommit s
  | .writeClass => doWriteClass args s
  | .deleteClass => doDeleteClass args s
  | .setPart => doSetPart args s
  | .ackAlarm => doAckAlarm args s
  | .tripRelease => doTripRelease s
  | .enrol => doEnrol args s
  | .captureArm => doCaptureArm args s
  | .captureTrigger => doCaptureTrigger s
  | .captureAbort => doCaptureAbort s
  | .captureRelease => doCaptureRelease s
  | .reset => doReset args s

/-- Steps 3 to 6: the code, the length, the session, the execution (R127). -/
def decideRequest (source : NodeAddr) (code : Byte) (args : List Byte) (s : State) : State × Answer :=
  match requestKindOf code with
  | none => (s, { status := .unknownRequest, data := [] })
  | some kind =>
    if args.length ≠ kind.argLength then (s, { status := .badRequest, data := [] })
    else
      match (if kind.needsSession then sessionRefusal source s else none) with
      | some refusal => (s, refusal)
      | none => executeRequest kind source args s

/-- The Replay Slot filled after a request from the owner, when the session is OPEN after it (R134). -/
def State.fillReplay (source : NodeAddr) (r : Response) (s : State) : State :=
  if s.isOwner source then { s with replay := some r } else s

/-- The response of a request: stored in the Replay Slot when it is the owner's, and placed (R134, R127). -/
def State.answer (h : ReqHeader) (code : Byte) (a : Answer) (s : State) : State :=
  let r : Response := { id := h.id, code, status := a.status, data := a.data }
  State.placeResponse h.source r (s.fillReplay h.source r)

/-- Step 2: the stored response of a repeat of the owner's last request id (R134). -/
def State.replayFor (h : ReqHeader) (s : State) : Option Response :=
  if s.isOwner h.source then s.replay.filter (fun r => r.id == h.id) else none

/-- A request at the Management Agent: discarded at a full Response Queue, otherwise taken through the steps of R127
(R126, R127). What the request's execution gives to the North Arbiter joins its queue before the response is placed: R138 for
a COMMIT; DESIGN CHOICE (log entry 26), unsafe, for the notice of a CAPTURE_ABORT and the reference of an ACK_ALARM. -/
def State.takeRequest (h : ReqHeader) (code : Byte) (args : List Byte) (s : State) : State :=
  if Config.responseCapacity ≤ s.responseQ.length then
    { s with partCounters := { s.partCounters with requestsDiscarded := s.partCounters.requestsDiscarded + 1 } }
  else
    let s := s.renewLease h.source
    match s.replayFor h with
    | some stored => s.placeResponse h.source stored
    | none =>
      let (t, a) := decideRequest h.source code args s
      t.answer h code a

end Sys2Proof.Machine
end

