-- ==== Sys2Proof/Machine/Router.lean ====
section
/-! DEFINITION. Reception and the Frame Router: an end symbol completes a frame, which is validated, counted and handed on
(R169, R171, R173, R174). -/

namespace Sys2Proof.Machine

open Sys2Proof

/-- The request a MGMT_REQ frame carries (R125, R178). -/
def requestHeader (f : Frame) : ReqHeader := { dest := f.dest, source := f.source, id := byteAt f.payload 0 }

/-- A valid frame from the South port, by its kind (R173). DEDUCED (log entry 13), unsafe: a DESCRIPTOR is offered to the
Forward Queue first and then handed to the Enrolment Unit. -/
def State.routeSouth (f : Frame) (s : State) : State :=
  match f.kind with
  | .sample => s.sampleArrived f
  | .descriptor => (s.offerForward f).descriptorArrived (descriptorOf f)
  | .digest | .alarm | .notice | .mgmtRsp => s.offerForward f
  | .probe | .command | .mgmtReq => s

/-- A valid frame from the North port, by its kind and Destination (R174). DEDUCED (log entry 14), unsafe: a broadcast MGMT_REQ is
taken by the Management Agent first and then offered to the Command Queue. -/
def State.routeNorth (f : Frame) (s : State) : State :=
  match f.kind with
  | .mgmtReq =>
    if s.ownAddress = some f.dest then
      s.takeRequest (requestHeader f) (byteAt f.payload 1) (f.payload.drop 2)
    else if f.dest = 0xFF then
      (s.takeRequest (requestHeader f) (byteAt f.payload 1) (f.payload.drop 2)).offerCommand f
    else s.offerCommand f
  | .command | .probe => if s.ownAddress = some f.dest then s else s.offerCommand f
  | .sample | .descriptor | .mgmtRsp | .digest | .alarm | .notice => s

/-- A valid frame handed on from its port. -/
def State.route (port : Port) (f : Frame) (s : State) : State :=
  match port with
  | .north => s.routeNorth f
  | .south => s.routeSouth f

/-- A complete frame: validated; discarded and counted once, or counted as good and handed to the Router in the same event
(R171). -/
def State.frameComplete (port : Port) (held : List Byte) (received : Nat) (s : State) : State :=
  match validate port held received with
  | .error e => s.countPort port (PortCounters.addError e)
  | .ok f => State.route port f (s.countPort port PortCounters.addGood)

/-- A frame at a port: at an IDLE receiver its start symbol first, then the bytes that the receiver has not yet taken, then the
end symbol, which completes the frame and returns the receiver to IDLE (R169). The bytes given are the whole frame's. DESIGN
CHOICE (log entries 4, 6), safe: a receiver already IN_FRAME takes the rest of the frame with no second start symbol. -/
def State.receive (port : Port) (bytes : List Byte) (s : State) : State :=
  let r := (s.receiver port).opened
  match r.takeBytes (bytes.drop r.taken) with
  | .idle => s
  | .inFrame held received => State.frameComplete port held received (s.setReceiver port .idle)

end Sys2Proof.Machine
end

