-- ==== Sys2Proof/Machine/ExpiryCommands.lean ====
section
/-! DEFINITION. The meanings of the expiry commands (R73, R112, R120, R131). An expiry whose deadline is absent or not reached
is no event (R185). -/

namespace Sys2Proof.Machine

open Sys2Proof

/-- STALE_EXPIRY (R73). -/
def execStaleExpiry (addr : ChannelAddr) (s : State) : Host.Outcome State Fault Refusal :=
  .next (s.whileRunning (State.expireStale addr))

/-- PROBE_WAIT_EXPIRY (R112). -/
def execProbeWaitExpiry (addr : ChannelAddr) (s : State) : Host.Outcome State Fault Refusal :=
  .next (s.whileRunning (State.expireProbeWait addr))

/-- HOLD_EXPIRY (R120). -/
def execHoldExpiry (addr : ChannelAddr) (s : State) : Host.Outcome State Fault Refusal :=
  .next (s.whileRunning (State.expireHold addr))

/-- LEASE_EXPIRY (R131). -/
def execLeaseExpiry (s : State) : Host.Outcome State Fault Refusal :=
  .next (s.whileRunning State.expireLease)

end Sys2Proof.Machine
end

