-- ==== Sys2Proof/Machine/LinkCommands.lean ====
section
/-! DEFINITION. The meanings of the commands of the link: symbols, frame arrivals and transmit completions (chapters 9
and 10). A frame command is the reception of its frame's bytes and end symbol at the port its kind arrives on. -/

namespace Sys2Proof.Machine

open Sys2Proof

/-- The SAMPLE frame of SAMPLE_ARRIVAL's operands (R178). -/
def sampleFrame (dest source channel seq flags : Byte) (value : Value) : Frame :=
  buildFrame .sample dest source (samplePayload channel seq flags value)

/-- SAMPLE_ARRIVAL (R22). -/
def execSampleArrival (dest source channel seq flags : Byte) (value : Value) (s : State) :
    Host.Outcome State Fault Refusal :=
  .next (s.whileRunning (State.receive .south (sampleFrame dest source channel seq flags value).bytes))

/-- The DESCRIPTOR frame of DESCRIPTOR_ARRIVAL's operands (R178). -/
def descriptorFrame (dest source channel classCode : Byte) (rangeLow rangeHigh : Value) (period : BitVec 16) : Frame :=
  buildFrame .descriptor dest source (descriptorPayload channel classCode rangeLow rangeHigh period)

/-- DESCRIPTOR_ARRIVAL (R113). -/
def execDescriptorArrival (dest source channel classCode : Byte) (rangeLow rangeHigh : Value) (period : BitVec 16)
    (s : State) : Host.Outcome State Fault Refusal :=
  .next (s.whileRunning
    (State.receive .south (descriptorFrame dest source channel classCode rangeLow rangeHigh period).bytes))

/-- NORTHBOUND_TRANSIT (R173). -/
def execNorthboundTransit (kind : NorthKind) (dest source : Byte) (payload : List Byte) (s : State) :
    Host.Outcome State Fault Refusal :=
  .next (s.whileRunning (State.receive .south (buildFrame (northFrameKind kind) dest source payload).bytes))

/-- SOUTHBOUND_TRANSIT (R174). -/
def execSouthboundTransit (kind : SouthKind) (dest source : Byte) (payload : List Byte) (s : State) :
    Host.Outcome State Fault Refusal :=
  .next (s.whileRunning (State.receive .north (buildFrame (southFrameKind kind) dest source payload).bytes))

/-- INVALID_FRAME (R171). -/
def execInvalidFrame (port : Port) (bytes : List Byte) (s : State) : Host.Outcome State Fault Refusal :=
  .next (s.whileRunning (State.receive port bytes))

/-- FRAME_ABANDONED (R169). -/
def execFrameAbandoned (port : Port) (data : List Byte) (s : State) : Host.Outcome State Fault Refusal :=
  .next (s.whileRunning (State.takeStart port data))

/-- START_SYMBOL (R169). -/
def execStartSymbol (port : Port) (data : List Byte) (s : State) : Host.Outcome State Fault Refusal :=
  .next (s.whileRunning (State.takeStart port data))

/-- A North transmission completes: the transmitter becomes idle and the North Arbiter makes its next pick (R177, R162). With
no transmission there is no completion (log entry 5). -/
def State.completeNorth (s : State) : State :=
  if s.northTx.isSome then State.pickNorth { s with northTx := none } else s

/-- NORTH_TRANSMIT_COMPLETE (R177). -/
def execNorthTransmitComplete (s : State) : Host.Outcome State Fault Refusal :=
  .next (s.whileRunning State.completeNorth)

/-- A South command transmission completes: the transmitter becomes idle and the South Arbiter picks (R166). -/
def State.completeCommand (s : State) : State :=
  match s.southTx with
  | .command _ => State.pickSouth { s with southTx := .idle }
  | .idle | .probe _ _ => s

/-- SOUTH_TRANSMIT_COMPLETE (R166). -/
def execSouthTransmitComplete (s : State) : Host.Outcome State Fault Refusal :=
  .next (s.whileRunning State.completeCommand)

/-- A probe's transmission completes: the Enrolment Unit takes the completion, and the South pick follows (R111, R166). -/
def State.completeProbe (s : State) : State :=
  match s.southTx with
  | .probe addr _ => State.pickSouth (State.probeCompleted addr { s with southTx := .idle })
  | .idle | .command _ => s

/-- PROBE_TRANSMIT_COMPLETE (R111). -/
def execProbeTransmitComplete (s : State) : Host.Outcome State Fault Refusal :=
  .next (s.whileRunning State.completeProbe)

end Sys2Proof.Machine
end

