-- ==== Sys2Proof/Machine/PinCommands.lean ====
section
/-! DEFINITION. The meanings of the commands of the pins and the Time Base: POWER_ON_RESET, PIN_RESET_ASSERT,
PIN_RESET_RELEASE, TIME_BASE_INCREMENT (chapter 11). -/

namespace Sys2Proof.Machine

open Sys2Proof

/-- POWER_ON_RESET (R186). -/
def execPowerOnReset (straps : Byte) (rstLow : Bool) (s : State) : Host.Outcome State Fault Refusal :=
  .next (s.powerOn straps rstLow)

/-- PIN_RESET_ASSERT (R187). -/
def execPinResetAssert (s : State) : Host.Outcome State Fault Refusal :=
  .next s.assertReset

/-- PIN_RESET_RELEASE (R187). -/
def execPinResetRelease (preserve : Bool) (straps : Byte) (s : State) : Host.Outcome State Fault Refusal :=
  .next (s.releaseReset preserve straps)

/-- One increment of the millisecond counter, wrapping (R184). -/
def State.incrementTime (s : State) : State := { s with now := s.now + 1 }

/-- TIME_BASE_INCREMENT: while RST_N is held low the counter stands at 0 (R184). -/
def execTimeBaseIncrement (s : State) : Host.Outcome State Fault Refusal :=
  .next (s.whileRunning State.incrementTime)

end Sys2Proof.Machine
end

