-- ==== Sys2Proof/Machine/RequestCommands.lean ====
section
/-! DEFINITION. The meanings of the management requests: each is the reception of its MGMT_REQ frame at the North port, its
effect the definition of its code in executeRequest (R125, R127, R182). -/

namespace Sys2Proof.Machine

open Sys2Proof

/-- A MGMT_REQ frame of a code and arguments received on the North port (R125). -/
def State.request (code : Byte) (h : ReqHeader) (args : List Byte) (s : State) : State :=
  s.whileRunning (State.receive .north (requestFrame h code args).bytes)

/-- READ_PART (R143). -/
def execReadPart (h : ReqHeader) (args : List Byte) (s : State) : Host.Outcome State Fault Refusal :=
  .next (s.request RequestKind.readPart.code h args)

/-- READ_COUNTERS (R143). -/
def execReadCounters (h : ReqHeader) (args : List Byte) (s : State) : Host.Outcome State Fault Refusal :=
  .next (s.request RequestKind.readCounters.code h args)

/-- LIST_ROWS (R144). -/
def execListRows (h : ReqHeader) (args : List Byte) (s : State) : Host.Outcome State Fault Refusal :=
  .next (s.request RequestKind.listRows.code h args)

/-- READ_ROW (R144). -/
def execReadRow (h : ReqHeader) (args : List Byte) (s : State) : Host.Outcome State Fault Refusal :=
  .next (s.request RequestKind.readRow.code h args)

/-- READ_STATE (R144). -/
def execReadState (h : ReqHeader) (args : List Byte) (s : State) : Host.Outcome State Fault Refusal :=
  .next (s.request RequestKind.readState.code h args)

/-- READ_ALARMS (R144). -/
def execReadAlarms (h : ReqHeader) (args : List Byte) (s : State) : Host.Outcome State Fault Refusal :=
  .next (s.request RequestKind.readAlarms.code h args)

/-- READ_CLASS (R144). -/
def execReadClass (h : ReqHeader) (args : List Byte) (s : State) : Host.Outcome State Fault Refusal :=
  .next (s.request RequestKind.readClass.code h args)

/-- READ_CAPTURE (R151). -/
def execReadCapture (h : ReqHeader) (args : List Byte) (s : State) : Host.Outcome State Fault Refusal :=
  .next (s.request RequestKind.readCapture.code h args)

/-- READ_ENROLMENT (R144). -/
def execReadEnrolment (h : ReqHeader) (args : List Byte) (s : State) : Host.Outcome State Fault Refusal :=
  .next (s.request RequestKind.readEnrolment.code h args)

/-- OPEN_SESSION (R129). -/
def execOpenSession (h : ReqHeader) (args : List Byte) (s : State) : Host.Outcome State Fault Refusal :=
  .next (s.request RequestKind.openSession.code h args)

/-- CLOSE_SESSION (R132). -/
def execCloseSession (h : ReqHeader) (args : List Byte) (s : State) : Host.Outcome State Fault Refusal :=
  .next (s.request RequestKind.closeSession.code h args)

/-- STAGE_ROW (R135). -/
def execStageRow (h : ReqHeader) (args : List Byte) (s : State) : Host.Outcome State Fault Refusal :=
  .next (s.request RequestKind.stageRow.code h args)

/-- STAGE_DELETE (R136). -/
def execStageDelete (h : ReqHeader) (args : List Byte) (s : State) : Host.Outcome State Fault Refusal :=
  .next (s.request RequestKind.stageDelete.code h args)

/-- DISCARD (R136). -/
def execDiscard (h : ReqHeader) (args : List Byte) (s : State) : Host.Outcome State Fault Refusal :=
  .next (s.request RequestKind.discard.code h args)

/-- COMMIT (R137). -/
def execCommit (h : ReqHeader) (args : List Byte) (s : State) : Host.Outcome State Fault Refusal :=
  .next (s.request RequestKind.commit.code h args)

/-- WRITE_CLASS (R140). -/
def execWriteClass (h : ReqHeader) (args : List Byte) (s : State) : Host.Outcome State Fault Refusal :=
  .next (s.request RequestKind.writeClass.code h args)

/-- DELETE_CLASS (R140). -/
def execDeleteClass (h : ReqHeader) (args : List Byte) (s : State) : Host.Outcome State Fault Refusal :=
  .next (s.request RequestKind.deleteClass.code h args)

/-- SET_PART (R141). -/
def execSetPart (h : ReqHeader) (args : List Byte) (s : State) : Host.Outcome State Fault Refusal :=
  .next (s.request RequestKind.setPart.code h args)

/-- ACK_ALARM (R87). -/
def execAckAlarm (h : ReqHeader) (args : List Byte) (s : State) : Host.Outcome State Fault Refusal :=
  .next (s.request RequestKind.ackAlarm.code h args)

/-- TRIP_RELEASE (R69). -/
def execTripRelease (h : ReqHeader) (args : List Byte) (s : State) : Host.Outcome State Fault Refusal :=
  .next (s.request RequestKind.tripRelease.code h args)

/-- ENROL (R109). -/
def execEnrol (h : ReqHeader) (args : List Byte) (s : State) : Host.Outcome State Fault Refusal :=
  .next (s.request RequestKind.enrol.code h args)

/-- CAPTURE_ARM (R148). -/
def execCaptureArm (h : ReqHeader) (args : List Byte) (s : State) : Host.Outcome State Fault Refusal :=
  .next (s.request RequestKind.captureArm.code h args)

/-- CAPTURE_TRIGGER (R150). -/
def execCaptureTrigger (h : ReqHeader) (args : List Byte) (s : State) : Host.Outcome State Fault Refusal :=
  .next (s.request RequestKind.captureTrigger.code h args)

/-- CAPTURE_ABORT (R152). -/
def execCaptureAbort (h : ReqHeader) (args : List Byte) (s : State) : Host.Outcome State Fault Refusal :=
  .next (s.request RequestKind.captureAbort.code h args)

/-- CAPTURE_RELEASE (R153). -/
def execCaptureRelease (h : ReqHeader) (args : List Byte) (s : State) : Host.Outcome State Fault Refusal :=
  .next (s.request RequestKind.captureRelease.code h args)

/-- RESET_RUNTIME: RESET with scope 0x01 (R145). The scope is the argument byte (log entry 7). -/
def execResetRuntime (h : ReqHeader) (args : List Byte) (s : State) : Host.Outcome State Fault Refusal :=
  .next (s.request RequestKind.reset.code h args)

/-- RESET_TABLES: RESET with scope 0x02 (R145). The scope is the argument byte (log entry 7). -/
def execResetTables (h : ReqHeader) (args : List Byte) (s : State) : Host.Outcome State Fault Refusal :=
  .next (s.request RequestKind.reset.code h args)

/-- UNKNOWN_REQUEST (R127). -/
def execUnknownRequest (h : ReqHeader) (code : Byte) (args : List Byte) (s : State) : Host.Outcome State Fault Refusal :=
  .next (s.request code h args)

end Sys2Proof.Machine
end

