-- ==== Sys2Proof/Machine/Dispatch.lean ====
section
/-! DEFINITION. exec: one arm per command, in the order of spec/opcode_table.json. -/

namespace Sys2Proof.Machine

open Sys2Proof

def exec (i : Instr) (s : State) : Host.Outcome State Fault Refusal :=
  match i with
  | .powerOnReset straps rstLow => Sys2Proof.Machine.execPowerOnReset straps rstLow s
  | .pinResetAssert => Sys2Proof.Machine.execPinResetAssert s
  | .pinResetRelease preserve straps => Sys2Proof.Machine.execPinResetRelease preserve straps s
  | .sampleArrival dest source channel seq flags value => Sys2Proof.Machine.execSampleArrival dest source channel seq flags value s
  | .descriptorArrival dest source channel classCode rangeLow rangeHigh period => Sys2Proof.Machine.execDescriptorArrival dest source channel classCode rangeLow rangeHigh period s
  | .northboundTransit kind dest source payload => Sys2Proof.Machine.execNorthboundTransit kind dest source payload s
  | .southboundTransit kind dest source payload => Sys2Proof.Machine.execSouthboundTransit kind dest source payload s
  | .invalidFrame port bytes => Sys2Proof.Machine.execInvalidFrame port bytes s
  | .frameAbandoned port data => Sys2Proof.Machine.execFrameAbandoned port data s
  | .northTransmitComplete => Sys2Proof.Machine.execNorthTransmitComplete s
  | .southTransmitComplete => Sys2Proof.Machine.execSouthTransmitComplete s
  | .probeTransmitComplete => Sys2Proof.Machine.execProbeTransmitComplete s
  | .staleExpiry addr => Sys2Proof.Machine.execStaleExpiry addr s
  | .probeWaitExpiry addr => Sys2Proof.Machine.execProbeWaitExpiry addr s
  | .holdExpiry addr => Sys2Proof.Machine.execHoldExpiry addr s
  | .leaseExpiry => Sys2Proof.Machine.execLeaseExpiry s
  | .readPart h args => Sys2Proof.Machine.execReadPart h args s
  | .readCounters h args => Sys2Proof.Machine.execReadCounters h args s
  | .listRows h args => Sys2Proof.Machine.execListRows h args s
  | .readRow h args => Sys2Proof.Machine.execReadRow h args s
  | .readState h args => Sys2Proof.Machine.execReadState h args s
  | .readAlarms h args => Sys2Proof.Machine.execReadAlarms h args s
  | .readClass h args => Sys2Proof.Machine.execReadClass h args s
  | .readCapture h args => Sys2Proof.Machine.execReadCapture h args s
  | .readEnrolment h args => Sys2Proof.Machine.execReadEnrolment h args s
  | .openSession h args => Sys2Proof.Machine.execOpenSession h args s
  | .closeSession h args => Sys2Proof.Machine.execCloseSession h args s
  | .stageRow h args => Sys2Proof.Machine.execStageRow h args s
  | .stageDelete h args => Sys2Proof.Machine.execStageDelete h args s
  | .discard h args => Sys2Proof.Machine.execDiscard h args s
  | .commit h args => Sys2Proof.Machine.execCommit h args s
  | .writeClass h args => Sys2Proof.Machine.execWriteClass h args s
  | .deleteClass h args => Sys2Proof.Machine.execDeleteClass h args s
  | .setPart h args => Sys2Proof.Machine.execSetPart h args s
  | .ackAlarm h args => Sys2Proof.Machine.execAckAlarm h args s
  | .tripRelease h args => Sys2Proof.Machine.execTripRelease h args s
  | .enrol h args => Sys2Proof.Machine.execEnrol h args s
  | .captureArm h args => Sys2Proof.Machine.execCaptureArm h args s
  | .captureTrigger h args => Sys2Proof.Machine.execCaptureTrigger h args s
  | .captureAbort h args => Sys2Proof.Machine.execCaptureAbort h args s
  | .captureRelease h args => Sys2Proof.Machine.execCaptureRelease h args s
  | .resetRuntime h args => Sys2Proof.Machine.execResetRuntime h args s
  | .resetTables h args => Sys2Proof.Machine.execResetTables h args s
  | .unknownRequest h code args => Sys2Proof.Machine.execUnknownRequest h code args s
  | .startSymbol port data => Sys2Proof.Machine.execStartSymbol port data s
  | .timeBaseIncrement => Sys2Proof.Machine.execTimeBaseIncrement s

end Sys2Proof.Machine
end

