-- ==== Sys2Proof/Safety.lean ====
section
/-! DEFINITION. What statements about the part are phrased in: a port ready for a frame, the intake of a request, and the laws
of the state that the chapters give, each a predicate on states (R1, R68, R80, R105, R106, R128, R147, R159, R162, R166). -/

namespace Sys2Proof.Machine

open Sys2Proof

/-! ### Commands by their shape -/

/-- The commands of the pins and the supply (R186, R187). -/
def isPinCommand (c : Instr) : Bool :=
  match c with
  | .powerOnReset _ _ | .pinResetAssert | .pinResetRelease _ _ => true
  | _ => false

/-- The header, the request code and the arguments of a management request (R125, R182); none for the other commands. -/
def requestOf (c : Instr) : Option (ReqHeader × Byte × List Byte) :=
  match c with
  | .readPart h args => some (h, 0x01, args)
  | .readCounters h args => some (h, 0x02, args)
  | .listRows h args => some (h, 0x03, args)
  | .readRow h args => some (h, 0x04, args)
  | .readState h args => some (h, 0x05, args)
  | .readAlarms h args => some (h, 0x06, args)
  | .readClass h args => some (h, 0x07, args)
  | .readCapture h args => some (h, 0x08, args)
  | .readEnrolment h args => some (h, 0x09, args)
  | .openSession h args => some (h, 0x10, args)
  | .closeSession h args => some (h, 0x11, args)
  | .stageRow h args => some (h, 0x20, args)
  | .stageDelete h args => some (h, 0x21, args)
  | .discard h args => some (h, 0x22, args)
  | .commit h args => some (h, 0x23, args)
  | .writeClass h args => some (h, 0x28, args)
  | .deleteClass h args => some (h, 0x29, args)
  | .setPart h args => some (h, 0x2A, args)
  | .ackAlarm h args => some (h, 0x30, args)
  | .tripRelease h args => some (h, 0x31, args)
  | .enrol h args => some (h, 0x32, args)
  | .captureArm h args => some (h, 0x38, args)
  | .captureTrigger h args => some (h, 0x39, args)
  | .captureAbort h args => some (h, 0x3A, args)
  | .captureRelease h args => some (h, 0x3B, args)
  | .resetRuntime h args => some (h, 0x3F, args)
  | .resetTables h args => some (h, 0x3F, args)
  | .unknownRequest h code args => some (h, code, args)
  | .powerOnReset _ _ | .pinResetAssert | .pinResetRelease _ _ | .sampleArrival _ _ _ _ _ _
  | .descriptorArrival _ _ _ _ _ _ _ | .northboundTransit _ _ _ _ | .southboundTransit _ _ _ _ | .invalidFrame _ _
  | .frameAbandoned _ _ | .northTransmitComplete | .southTransmitComplete | .probeTransmitComplete | .staleExpiry _
  | .probeWaitExpiry _ | .holdExpiry _ | .leaseExpiry | .startSymbol _ _ | .timeBaseIncrement => none

/-- The port and the bytes between the delimiters that a frame command stands for (R169, R178); none for the other commands. -/
def frameOnLine (c : Instr) : Option (Port × List Byte) :=
  match c with
  | .sampleArrival d q ch seq fl v => some (.south, (sampleFrame d q ch seq fl v).bytes)
  | .descriptorArrival d q ch cc lo hi p => some (.south, (descriptorFrame d q ch cc lo hi p).bytes)
  | .northboundTransit k d q p => some (.south, (buildFrame (northFrameKind k) d q p).bytes)
  | .southboundTransit k d q p => some (.north, (buildFrame (southFrameKind k) d q p).bytes)
  | .invalidFrame port bytes => some (port, bytes)
  | c => (requestOf c).map (fun r => (.north, (requestFrame r.1 r.2.1 r.2.2).bytes))

/-! ### A reset -/

/-- Every block at its power-on values, with these straps latched and the counter at 0 (R186). -/
def State.poweredOn (straps : Byte) (t : State) : Prop :=
  t.phase = .running ∧ t.node = straps ∧ t.now = 0 ∧ t.rows = [] ∧ t.classes = [] ∧
    t.settings = { mode := .off, unknown := .forward, probeTimeout := 20, probeRetries := 3 } ∧
    t.tripLatch = .clear ∧ t.alarms = [] ∧
    t.overflow = { lostCount := 0, state := .clear, firstLost := none, lastChange := 0, reportOwed := false } ∧
    t.episode = 1 ∧ t.enrol = [] ∧ t.session = none ∧ t.staging = [] ∧ t.replay = none ∧
    t.capture = { state := .idle, channel := none, preCount := 0, postCount := 1, trigger := .onRaise,
                  triggerIndex := none, triggerTime := none, buffer := [] } ∧
    t.forwardQ = [] ∧ t.reportQ = [] ∧ t.noticeQ = [] ∧ t.responseQ = [] ∧ t.commandQ = [] ∧ t.guardCount = 0 ∧
    t.lostNotices = 0 ∧ t.northTx = none ∧ t.southTx = .idle ∧ t.northRx = .idle ∧ t.southRx = .idle ∧
    t.northCounters = PortCounters.initial ∧ t.southCounters = PortCounters.initial ∧
    t.partCounters = PartCounters.initial

/-! ### A frame received -/

/-- The part runs, and the receiver of a port is IDLE or in the frame of these bytes: it has taken the first of them, of which
it stores at most 54 (R169). -/
def State.accepts (port : Port) (bytes : List Byte) (s : State) : Prop :=
  s.phase = .running ∧
    (s.receiver port = .idle ∨
      ∃ n, n ≤ bytes.length ∧ s.receiver port = .inFrame ((bytes.take n).take Config.frameBytesMax) n)

/-- The state as the Router finds it: the receiver back in IDLE, the frame counted as good (R169, R171). -/
def State.received (port : Port) (s : State) : State :=
  (s.setReceiver port .idle).countPort port PortCounters.addGood

/-! ### A request taken -/

/-- A request that reaches the Management Agent: its Destination is the part's own address or broadcast (R125). -/
def State.reaches (h : ReqHeader) (s : State) : Prop := s.ownAddress = some h.dest ∨ h.dest = 0xFF

/-- The state at step 3 of R127: the frame received, the owner's lease renewed (R127, R130). -/
def State.taken (h : ReqHeader) (s : State) : State := (s.received .north).renewLease h.source

/-- A request that comes to the steps of R127: its frame arrives, it reaches the agent, the Response Queue has room (R126). -/
def State.admits (h : ReqHeader) (code : Byte) (args : List Byte) (s : State) : Prop :=
  s.accepts .north (requestFrame h code args).bytes ∧ args.length ≤ 46 ∧ s.reaches h ∧
    s.responseQ.length < Config.responseCapacity

/-- A request that repeats the owner's stored request id (R134). -/
def State.repeats (h : ReqHeader) (s : State) : Prop :=
  (∃ ses, s.session = some ses ∧ ses.owner = h.source) ∧ ∃ r, s.replay = some r ∧ r.id = h.id

/-- A request of a kind that comes to step 6 of R127: admitted, no repeat, its arguments of the right length, and, where it
needs a session, sent by the owner of the open one (R127, R133). -/
def State.runs (kind : RequestKind) (h : ReqHeader) (args : List Byte) (s : State) : Prop :=
  s.admits h kind.code args ∧ ¬ s.repeats h ∧ args.length = kind.argLength ∧
    (kind.needsSession = true → ∃ ses, s.session = some ses ∧ ses.owner = h.source)

/-- A broadcast request goes on to the Command Queue after the agent has taken it (R174; the order is log entry 14). -/
def State.passOn (h : ReqHeader) (code : Byte) (args : List Byte) (s : State) : State :=
  if h.dest = 0xFF then s.offerCommand (requestFrame h code args) else s

/-- A request answered: the response stored for the owner and placed (R127, R134), a broadcast passed on. The state is that
which the request's execution left, so that what the execution offered joined first (R138 for a COMMIT; log entry 26). -/
def State.replied (h : ReqHeader) (code : Byte) (args : List Byte) (a : Answer) (s : State) : State :=
  (s.answer h code a).passOn h code args

/-! ### Rows and entries that pass their checks -/

/-- A row configuration that satisfies each check of R10. -/
def RowConfig.valid (c : RowConfig) : Prop := rowFault c c.policy.code = none

/-- A row configuration whose fields a row image can hold (R180). -/
def RowConfig.fitsImage (c : RowConfig) : Prop :=
  c.classCode ≠ some 0 ∧ c.depth < 2 ^ 8 ∧ c.hysteresis < 2 ^ 16 ∧ c.persistence < 2 ^ 8 ∧ c.tripPersistence < 2 ^ 8 ∧
    c.staleWindow < 2 ^ 16

/-- The shape of an Enrolment List entry (R106, Table 6-1); an owed probe is at most the eighth. -/
def EnrolEntry.shaped (e : EnrolEntry) : Prop :=
  e.attempts ≤ 8 ∧
    match e.state with
    | .probing => e.reason = none ∧ (if e.probeOwed then e.deadline = none ∧ e.attempts ≤ 7 else e.deadline.isSome = true)
    | .failed => e.probeOwed = false ∧ e.deadline.isSome = true ∧ e.reason = none
    | .refused => e.probeOwed = false ∧ e.deadline.isSome = true ∧ e.reason.isSome = true

/-- The part settings lie in their ranges (R14). -/
def Settings.inRange (c : Settings) : Prop := 5 ≤ c.probeTimeout ∧ c.probeTimeout ≤ 250 ∧ c.probeRetries ≤ 7

/-- The runtime record of a row lies in its ranges (Table 1-6) and its stale deadline goes with its window, policy and STALE
(R7, R26, R72, R73). -/
def Row.inRange (r : Row) : Prop :=
  r.rt.count < r.config.depth ∧
    (r.rt.count = 0 ↔ r.rt.windowMin = none) ∧ (r.rt.count = 0 ↔ r.rt.windowMax = none) ∧
    -(32768 * (r.rt.count : Int)) ≤ r.rt.sum ∧ r.rt.sum ≤ 32767 * (r.rt.count : Int) ∧
    r.rt.gapCount ≤ 65535 ∧ r.rt.dupCount ≤ 65535 ∧ r.rt.dropCount ≤ 65535 ∧
    r.rt.low.counter ≤ 15 ∧ r.rt.high.counter ≤ 15 ∧ r.rt.trip.counter ≤ 4 ∧
    (r.rt.low.active = false → r.rt.low.counter < r.config.persistence) ∧
    (r.rt.high.active = false → r.rt.high.counter < r.config.persistence) ∧
    (r.rt.trip.active = false → r.rt.trip.counter < r.config.tripPersistence) ∧
    (r.rt.staleDeadline.isSome = true ↔ r.config.staleWindow ≠ 0 ∧ r.config.policy ≠ .block ∧ r.rt.stale = false)

/-- The kind of a raise or a clear (R55). -/
def AlarmEvent.kind : AlarmEvent → AlarmKind
  | .raise _ kind _ _ => kind
  | .clear _ kind _ => kind

/-- Whether the condition of a kind is active in a runtime record (chapters 3 and 4). -/
def Runtime.holds (r : Runtime) : AlarmKind → Bool
  | .low => r.low.active
  | .high => r.high.active
  | .trip => r.trip.active
  | .stale => r.stale

/-! ### The laws -/

/-- The law of the session record: without a session the Staging List and the Replay Slot are empty, and a lease lies in its
range (R128). -/
def State.SessionLaw (s : State) : Prop :=
  (s.session = none → s.staging = [] ∧ s.replay = none) ∧
    ∀ ses, s.session = some ses → 100 ≤ ses.lease ∧ ses.lease ≤ 10000

/-- The law of the capture record: what is present and how many elements are held in each state (R147). -/
def State.CaptureLaw (s : State) : Prop :=
  1 ≤ s.capture.postCount ∧ s.capture.preCount + s.capture.postCount ≤ Config.captureCapacity ∧
    match s.capture.state with
    | .idle =>
      s.capture.channel = none ∧ s.capture.triggerIndex = none ∧ s.capture.triggerTime = none ∧ s.capture.buffer = []
    | .armed =>
      s.capture.channel.isSome = true ∧ s.capture.triggerIndex = none ∧ s.capture.triggerTime = none ∧
        s.capture.buffer.length ≤ s.capture.preCount
    | .triggered =>
      s.capture.channel.isSome = true ∧ s.capture.triggerTime.isSome = true ∧
        ∃ i, s.capture.triggerIndex = some i ∧ i ≤ s.capture.preCount ∧ i ≤ s.capture.buffer.length ∧
          s.capture.buffer.length < i + s.capture.postCount
    | .full =>
      s.capture.channel.isSome = true ∧ s.capture.triggerTime.isSome = true ∧
        ∃ i, s.capture.triggerIndex = some i ∧ i ≤ s.capture.preCount ∧
          s.capture.buffer.length = i + s.capture.postCount

/-- The law of the queues' capacities and of the arbiters' counts (R158, R160, R161, R163, R165). -/
def State.QueueLaw (s : State) : Prop :=
  s.forwardQ.length ≤ Config.forwardCapacity ∧ s.noticeQ.length ≤ Config.noticeCapacity ∧
    s.responseQ.length ≤ Config.responseCapacity ∧ s.commandQ.length ≤ Config.commandCapacity ∧
    s.guardCount ≤ Config.guardLimit ∧ (s.forwardQ = [] → s.guardCount = 0) ∧ s.lostNotices ≤ 255

/-- The law of the tables: address order and capacity of the rows, code order and capacity of the classes, one entry or item
to an address in the Enrolment and Staging Lists, no entry for an address that has a row, and every row, class and staged
image passing its checks (R1, R10, R11, R12, R14, R105, R118, R135). -/
def State.TablesLaw (s : State) : Prop :=
  s.rows.Pairwise (fun a b => a.config.addr < b.config.addr) ∧ s.rows.length ≤ Config.rowCapacity ∧
    (∀ r ∈ s.rows, r.config.valid) ∧
    s.classes.Pairwise (fun a b => a.code < b.code) ∧ s.classes.length ≤ Config.classCapacity ∧
    (∀ c ∈ s.classes, c.code ≠ 0 ∧ templateOk c = true) ∧
    (s.enrol.map (·.addr)).Nodup ∧ s.enrol.length ≤ Config.enrolCapacity ∧
    (∀ e ∈ s.enrol, rowAt s.rows e.addr = none) ∧
    (s.staging.map StagedItem.addr).Nodup ∧ s.staging.length ≤ Config.stagingCapacity ∧
    (∀ c, StagedItem.row c ∈ s.staging → c.valid)

/-- The law of the Enrolment List's entries, with the settings in their ranges and no entry in mode OFF (R106, R107, R14). -/
def State.EnrolLaw (s : State) : Prop :=
  (∀ e ∈ s.enrol, e.shaped) ∧ s.settings.inRange ∧ (s.settings.mode = .off → s.enrol = [])

/-- The law of the runtime records (Table 1-6, R72). -/
def State.RecordLaw (s : State) : Prop := ∀ r ∈ s.rows, r.inRange

/-- The law of the Trip Latch: a row with trip output enabled and TRIP active keeps it SET (R68). -/
def State.LatchLaw (s : State) : Prop := s.tripLatch = .clear → ∀ r ∈ s.rows, r.holdsLatch = false

/-- The law of the Alarm Table, the Overflow Record and the references: one entry to a pair, at most 64, no episode 0, a cause
exactly in CLOSED, a CLOSED entry owing its report, one reference for each report owed and none else (R80, R83, R91, R94,
R159). -/
def State.AlarmLaw (s : State) : Prop :=
  (s.alarms.map (fun e => (e.addr, e.kind))).Nodup ∧ s.alarms.length ≤ Config.alarmCapacity ∧ s.episode ≠ 0 ∧
    (∀ e ∈ s.alarms, e.episode ≠ 0 ∧ 1 ≤ e.occurrence ∧ e.occurrence ≤ 255 ∧ (e.state = .closed ↔ e.cause.isSome = true) ∧
      (e.state = .closed → e.reportOwed = true) ∧ (e.reportOwed = true ↔ Reference.entry e.addr e.kind ∈ s.reportQ)) ∧
    s.reportQ.Nodup ∧ (∀ addr kind, Reference.entry addr kind ∈ s.reportQ → (entryAt s.alarms addr kind).isSome = true) ∧
    (s.overflow.reportOwed = true ↔ Reference.overflow ∈ s.reportQ) ∧
    (s.overflow.state = .clear → s.overflow.lostCount = 0 ∧ s.overflow.firstLost = none) ∧
    (s.overflow.state = .pending → 1 ≤ s.overflow.lostCount ∧ s.overflow.firstLost.isSome = true) ∧
    s.overflow.lostCount ≤ 65535

/-- The law of the North Arbiter: while the part runs, an idle transmitter means that nothing waits in the four queues
(R162). -/
def State.NorthLaw (s : State) : Prop :=
  s.phase = .running → s.northTx = none →
    s.responseQ = [] ∧ s.reportQ = [] ∧ s.noticeQ = [] ∧ s.forwardQ = []

/-- The law of the South Arbiter: while the part runs, an idle transmitter means that no command waits and no probe is owed
(R166). -/
def State.SouthLaw (s : State) : Prop :=
  s.phase = .running → s.southTx = .idle → s.commandQ = [] ∧ ∀ e ∈ s.enrol, e.probeOwed = false

/-- The law between the Alarm Table and the runtime records: an entry that is not CLOSED names a row, and an entry of a row is in
ACTIVE_UNACK or ACTIVE_ACK exactly when its condition is active in the row's record (R80, R81). -/
def State.ConditionLaw (s : State) : Prop :=
  ∀ e ∈ s.alarms, (e.state ≠ .closed → (rowAt s.rows e.addr).isSome = true) ∧
    ∀ r, rowAt s.rows e.addr = some r →
      (e.state = .activeUnack ∨ e.state = .activeAck ↔ r.rt.holds e.kind = true)

end Sys2Proof.Machine
end

