-- ==== Sys2Proof/Certificates/Slice0/Obligations.lean ====
section
/-! DEFINITION. The statements for the provers. A statement that gives a command's next state as an equation gives its frame with
it: every field that the right side does not change is unchanged. -/

open Sys2Proof Sys2Proof.Machine

/-! ### Steps, resets, time -/

/-- A step takes the command at the front of the queue and is exec of it on the state with the queue's rest
(00_scope.md section 2.8; the queue is log entry 1). -/
def Obligations.StepRunsFrontCommand : Prop :=
  ∀ (c : Instr) (rest : List Instr) (s : State), s.pending = c :: rest → step s = exec c { s with pending := rest }

/-- POWER_ON_RESET: with RST_N high every block takes its power-on values, the straps are latched and the counter is 0 (R186);
with RST_N held low the same holds at the release, whatever PRESERVE is, with the straps as they are then (R183, R186; the
operand is log entry 8). -/
def Obligations.PowerOnReset : Prop :=
  ∀ (straps : Byte) (s : State),
    (∃ t, exec (.powerOnReset straps false) s = .next t ∧ t.poweredOn straps) ∧
    ∃ t, exec (.powerOnReset straps true) s = .next t ∧
      ∀ (preserve : Bool) (later : Byte),
        ∃ u, exec (.pinResetRelease preserve later) t = .next u ∧ u.poweredOn later

/-- A pin reset (R187): what the assertion does, what the part takes until the release, and the release with PRESERVE low and
high. What stands between the two is log entry 10. -/
def Obligations.PinReset : Prop :=
  ∀ s : State,
    (s.phase = .running →
      ∃ t, exec .pinResetAssert s = .next t ∧ t.phase = .pinReset ∧ t.now = 0 ∧
        t.northTx = none ∧ t.southTx = .idle ∧ t.northRx = .idle ∧ t.southRx = .idle ∧
        t.northCounters = s.northCounters ∧ t.southCounters = s.southCounters ∧
        t.tripLine = .released ∧ t.alertLine = .released ∧
        t.rows = s.rows ∧ t.classes = s.classes ∧ t.settings = s.settings) ∧
    (s.phase ≠ .running → ∀ c, isPinCommand c = false → exec c s = .next s) ∧
    (s.phase = .pinReset → ∀ straps : Byte,
      (∃ t, exec (.pinResetRelease false straps) s = .next t ∧ t.poweredOn straps) ∧
      ∃ t, exec (.pinResetRelease true straps) s = .next t ∧
        State.poweredOn straps { t with rows := [], classes := [], settings := Settings.initial } ∧
        t.rows = s.rows.map (fun r => { config := r.config, rt := freshRecord r.config 0 }) ∧
        t.classes = s.classes ∧ t.settings = s.settings)

/-- The latched node address (R183): latched at a power-on reset and at the release of a pin reset, held by every other
command; it is the own address when it lies in 0x01 to 0xFE; it is the Source of every frame the part builds. -/
def Obligations.NodeAddressHeld : Prop :=
  (∀ (straps : Byte) (s : State), ∃ t, exec (.powerOnReset straps false) s = .next t ∧ t.node = straps) ∧
  (∀ (preserve : Bool) (straps : Byte) (s : State), s.phase ≠ .running →
    ∃ t, exec (.pinResetRelease preserve straps) s = .next t ∧ t.node = straps) ∧
  (∀ (c : Instr) (s t : State), isPinCommand c = false ∨ c = .pinResetAssert → exec c s = .next t → t.node = s.node) ∧
  (∀ s : State, s.ownAddress = if 1 ≤ s.node.toNat ∧ s.node.toNat ≤ 254 then some s.node else none) ∧
  (∀ (node dest : NodeAddr) (r : Response) (e : AlarmEntry) (o : OverflowRecord) (lost : Nat) (n : Notice)
      (addr : ChannelAddr) (number : BitVec 16) (d : Digest) (count : Nat) (gated active : Bool),
    (digestFrame node addr number d count gated active).source = node ∧ (alarmFrame node e).source = node ∧
    (overflowFrame node o).source = node ∧ (noticeFrame node lost n).source = node ∧
    (probeFrame node addr).source = node ∧ (responseFrame node dest r).source = node)

/-- The millisecond counter: TIME_BASE_INCREMENT adds one and wraps while the part runs, and leaves the counter while RST_N holds
it; of the other commands only the pins' change it (R184). -/
def Obligations.TimeBaseIncrement : Prop :=
  (∀ s : State, s.phase = .running →
    exec .timeBaseIncrement s = .next { s with now := BitVec.ofNat 32 ((s.now.toNat + 1) % 2 ^ 32) }) ∧
  (∀ s : State, s.phase ≠ .running → exec .timeBaseIncrement s = .next s) ∧
  (∀ (c : Instr) (s t : State), isPinCommand c = false → c ≠ .timeBaseIncrement → exec c s = .next t → t.now = s.now)

/-! ### The link -/

/-- The receivers (R169): a start symbol in IDLE begins a frame; in IN_FRAME it counts the bytes held as a length error and
begins another; data bytes are appended, of which 54 are stored; the end symbol completes the frame and returns the receiver to
IDLE. A frame command brings its own start symbol to an IDLE receiver, and to one IN_FRAME of the same bytes what it has not yet
taken. The data bytes as operands are log entry 4, the start symbol is log entry 6. -/
def Obligations.ReceiverSymbols : Prop :=
  ∀ (port : Port) (s : State), s.phase = .running →
    (∀ data, s.receiver port = .idle →
      exec (.startSymbol port data) s = .next (s.setReceiver port (.inFrame (data.take 54) data.length))) ∧
    (∀ data held n, s.receiver port = .inFrame held n →
      exec (.startSymbol port data) s = .next
        ((s.countPort port (fun c => { c with lengthErrors := c.lengthErrors + 1 })).setReceiver port
          (.inFrame (data.take 54) data.length)) ∧
      exec (.frameAbandoned port data) s = exec (.startSymbol port data) s) ∧
    (∀ c bytes, frameOnLine c = some (port, bytes) → s.accepts port bytes →
      exec c s = .next (State.frameComplete port (bytes.take 54) bytes.length (s.setReceiver port .idle)))

/-- INVALID_FRAME: a complete frame that fails a check of R171 is discarded and counted once, in the counter of the first check
it fails. The codes of the kinds, the port each may arrive on and the payload lengths each allows are those of R172's table. -/
def Obligations.InvalidFrameCounted : Prop :=
  (∀ (port : Port) (bytes : List Byte) (s : State), s.accepts port bytes →
    let n := bytes.length
    let counted (change : PortCounters → PortCounters) := (s.setReceiver port .idle).countPort port change
    let lengthError := counted (fun c => { c with lengthErrors := c.lengthErrors + 1 })
    let sized := 6 ≤ n ∧ n ≤ 54
    let checked := sized ∧ crc16 (bytes.take (n - 2)) = halfAt bytes (n - 2)
    let measured := checked ∧ (byteAt bytes 3).toNat ≤ 48 ∧ (byteAt bytes 3).toNat = n - 6
    (¬ sized → exec (.invalidFrame port bytes) s = .next lengthError) ∧
    (sized → ¬ checked →
      exec (.invalidFrame port bytes) s = .next (counted (fun c => { c with checkErrors := c.checkErrors + 1 }))) ∧
    (checked → ¬ measured → exec (.invalidFrame port bytes) s = .next lengthError) ∧
    (measured → frameKindOf (byteAt bytes 0) = none →
      exec (.invalidFrame port bytes) s = .next (counted (fun c => { c with unknownKinds := c.unknownKinds + 1 }))) ∧
    (∀ kind, measured → frameKindOf (byteAt bytes 0) = some kind → arrivesOn kind ≠ port →
      exec (.invalidFrame port bytes) s = .next (counted (fun c => { c with misdirected := c.misdirected + 1 }))) ∧
    (∀ kind, measured → frameKindOf (byteAt bytes 0) = some kind → arrivesOn kind = port →
      lengthAllowed kind (n - 6) = false → exec (.invalidFrame port bytes) s = .next lengthError)) ∧
  (frameKindOf 0x01 = some .sample ∧ frameKindOf 0x02 = some .descriptor ∧ frameKindOf 0x03 = some .probe ∧
    frameKindOf 0x04 = some .command ∧ frameKindOf 0x05 = some .mgmtReq ∧ frameKindOf 0x06 = some .mgmtRsp ∧
    frameKindOf 0x07 = some .digest ∧ frameKindOf 0x08 = some .alarm ∧ frameKindOf 0x09 = some .notice ∧
    ∀ code : Byte, code = 0 ∨ 9 < code.toNat → frameKindOf code = none) ∧
  (∀ kind : FrameKind, frameKindOf kind.code = some kind) ∧
  (arrivesOn .sample = .south ∧ arrivesOn .descriptor = .south ∧ arrivesOn .probe = .north ∧ arrivesOn .command = .north ∧
    arrivesOn .mgmtReq = .north ∧ arrivesOn .mgmtRsp = .south ∧ arrivesOn .digest = .south ∧ arrivesOn .alarm = .south ∧
    arrivesOn .notice = .south) ∧
  ∀ n : Nat,
    (lengthAllowed .sample n = true ↔ n = 5) ∧ (lengthAllowed .descriptor n = true ↔ n = 8) ∧
    (lengthAllowed .probe n = true ↔ n = 1) ∧ (lengthAllowed .command n = true ↔ n ≤ 48) ∧
    (lengthAllowed .mgmtReq n = true ↔ 2 ≤ n ∧ n ≤ 48) ∧ (lengthAllowed .mgmtRsp n = true ↔ 3 ≤ n ∧ n ≤ 48) ∧
    (lengthAllowed .digest n = true ↔ n = 12) ∧ (lengthAllowed .alarm n = true ↔ n = 18) ∧
    (lengthAllowed .notice n = true ↔ n = 10)

/-- The Check (R170): the register starts at 0xFFFF, takes each byte most significant bit first, shifts left by one for each bit
and is combined with 0x1021 when the bit shifted out differs from the data bit; the Check of a frame covers Kind through the
last payload byte and is sent most significant byte first. -/
def Obligations.CheckBitByBit : Prop :=
  crc16 [] = 0xFFFF#16 ∧
  (∀ (bs : List Byte) (b : Byte),
    crc16 (bs ++ [b]) = [7, 6, 5, 4, 3, 2, 1, 0].foldl (fun r i => crcBit r (b.getLsbD i)) (crc16 bs)) ∧
  (∀ (reg : BitVec 16) (bit : Bool),
    crcBit reg bit = if (reg.getLsbD 15 ^^ bit) = true then (reg <<< 1) ^^^ 0x1021#16 else reg <<< 1) ∧
  (∀ (kind : FrameKind) (dest source : Byte) (payload : List Byte),
    let covered := kind.code :: dest :: source :: BitVec.ofNat 8 payload.length :: payload
    (buildFrame kind dest source payload).bytes =
      covered ++ [(crc16 covered).extractLsb' 8 8, (crc16 covered).extractLsb' 0 8]) ∧
  crc16 [0x31, 0x32, 0x33, 0x34, 0x35, 0x36, 0x37, 0x38, 0x39] = 0x29B1#16

/-- A frame and its bytes agree: bytes pass the checks of R171 on a port and are read as a frame exactly when they are that
frame's bytes, its Check is that of its fields, its kind may arrive there and its length is one the kind allows. So no bit
of a frame is dropped on the way in or out (R170, R171, R172, R178). -/
def Obligations.FrameReadBack : Prop :=
  ∀ (port : Port) (bytes : List Byte) (f : Frame),
    validate port bytes bytes.length = .ok f ↔
      f.bytes = bytes ∧ f = buildFrame f.kind f.dest f.source f.payload ∧ arrivesOn f.kind = port ∧
        lengthAllowed f.kind f.payload.length = true

/-- A frame with any one byte changed on the line is counted as a check error (a consequence of R170 and R171). -/
def Obligations.OneByteErrorFound : Prop :=
  ∀ (kind : FrameKind) (dest source : Byte) (payload : List Byte) (i : Nat) (b : Byte),
    lengthAllowed kind payload.length = true →
    let bytes := (buildFrame kind dest source payload).bytes
    i < bytes.length → b ≠ byteAt bytes i →
      ∀ s : State, s.accepts (arrivesOn kind) (bytes.set i b) →
        exec (.invalidFrame (arrivesOn kind) (bytes.set i b)) s = .next
          ((s.setReceiver (arrivesOn kind) .idle).countPort (arrivesOn kind)
            (fun c => { c with checkErrors := c.checkErrors + 1 }))

/-- NORTHBOUND_TRANSIT: a valid DIGEST, ALARM, NOTICE or MGMT_RSP frame joins the Forward Queue at the tail unchanged and waits
while the North transmitter is busy; with the transmitter idle and nothing waiting it is transmitted at once; at 64 frames it
is discarded and counted (R158, R162, R173). SOUTHBOUND_TRANSIT: a valid COMMAND or PROBE frame to the part's own address is
discarded; every other one, and a MGMT_REQ frame that is neither to the own address nor to broadcast, joins the Command Queue
at the tail while the South transmitter is busy, is transmitted at once when it is idle and nothing waits, and is discarded
and counted at 16 frames (R165, R166, R174). -/
def Obligations.TransitQueued : Prop :=
  (∀ (kind : NorthKind) (dest source : Byte) (payload : List Byte) (s : State),
    let f := buildFrame (northFrameKind kind) dest source payload
    let u := s.received .south
    lengthAllowed (northFrameKind kind) payload.length = true → s.accepts .south f.bytes →
    (s.forwardQ.length < 64 → s.northTx ≠ none →
      exec (.northboundTransit kind dest source payload) s = .next { u with forwardQ := s.forwardQ ++ [f] }) ∧
    (s.NorthLaw → s.northTx = none →
      exec (.northboundTransit kind dest source payload) s = .next { u with northTx := some f, guardCount := 0 }) ∧
    (64 ≤ s.forwardQ.length →
      exec (.northboundTransit kind dest source payload) s = .next
        { u with partCounters := { u.partCounters with forwardDrops := u.partCounters.forwardDrops + 1 } })) ∧
  (∀ (kind : SouthKind) (dest source : Byte) (payload : List Byte) (s : State),
    let f := buildFrame (southFrameKind kind) dest source payload
    let u := s.received .north
    lengthAllowed (southFrameKind kind) payload.length = true → s.accepts .north f.bytes →
    (kind ≠ .mgmtReq → s.ownAddress = some dest →
      exec (.southboundTransit kind dest source payload) s = .next u) ∧
    (s.ownAddress ≠ some dest → (kind = .mgmtReq → dest ≠ 0xFF) →
      (s.commandQ.length < 16 → s.southTx ≠ .idle →
        exec (.southboundTransit kind dest source payload) s = .next { u with commandQ := s.commandQ ++ [f] }) ∧
      (s.SouthLaw → s.southTx = .idle →
        exec (.southboundTransit kind dest source payload) s = .next { u with southTx := .command f }) ∧
      (16 ≤ s.commandQ.length →
        exec (.southboundTransit kind dest source payload) s = .next
          { u with partCounters := { u.partCounters with commandDrops := u.partCounters.commandDrops + 1 } })))

/-- NORTH_TRANSMIT_COMPLETE and the North Arbiter's pick: nothing waits and the transmitter becomes idle; or the frame is taken
from the Forward Queue at guard count 8, else from the Response, Report, Notice or Forward Queue, in that order (R162), a
report or notice frame built as it stands at the pick (R91, R96, R164), with the guard count of R163. -/
def Obligations.NorthPick : Prop :=
  ∀ s : State, s.phase = .running → s.northTx ≠ none →
    let guard := if s.forwardQ = [] then s.guardCount else s.guardCount + 1
    let noTurn := s.guardCount ≠ 8 ∨ s.forwardQ = []
    (s.responseQ = [] → s.reportQ = [] → s.noticeQ = [] → s.forwardQ = [] →
      exec .northTransmitComplete s = .next { s with northTx := none }) ∧
    (∀ f rest, s.guardCount = 8 → s.forwardQ = f :: rest →
      exec .northTransmitComplete s = .next { s with northTx := some f, forwardQ := rest, guardCount := 0 }) ∧
    (∀ f rest, noTurn → s.responseQ = f :: rest →
      exec .northTransmitComplete s = .next { s with northTx := some f, responseQ := rest, guardCount := guard }) ∧
    (∀ addr kind rest e, noTurn → s.responseQ = [] → s.reportQ = Reference.entry addr kind :: rest →
      entryAt s.alarms addr kind = some e →
      exec .northTransmitComplete s = .next
        { s with
          northTx := some (alarmFrame s.node e), reportQ := rest, guardCount := guard,
          alarms := if e.state = .closed then freeEntry s.alarms addr kind
            else changeEntry s.alarms addr kind (fun x => { x with reportOwed := false }) }) ∧
    (∀ rest, noTurn → s.responseQ = [] → s.reportQ = Reference.overflow :: rest →
      exec .northTransmitComplete s = .next
        { s with northTx := some (overflowFrame s.node s.overflow), reportQ := rest, guardCount := guard,
                 overflow := { s.overflow with reportOwed := false } }) ∧
    (∀ n rest, noTurn → s.responseQ = [] → s.reportQ = [] → s.noticeQ = n :: rest →
      exec .northTransmitComplete s = .next
        { s with northTx := some (noticeFrame s.node s.lostNotices n), noticeQ := rest, guardCount := guard,
                 lostNotices := 0 }) ∧
    (∀ f rest, s.responseQ = [] → s.reportQ = [] → s.noticeQ = [] → s.forwardQ = f :: rest →
      exec .northTransmitComplete s = .next { s with northTx := some f, forwardQ := rest, guardCount := 0 })

/-- SOUTH_TRANSMIT_COMPLETE and PROBE_TRANSMIT_COMPLETE: the completion of a probe counts the attempt, clears probe owed and
sets the deadline of the entry it was built for when that is in PROBING with the probe owed (R111); then the South Arbiter
takes the Command Queue head, else a probe for the oldest entry that owes one, else the transmitter is idle (R166). -/
def Obligations.SouthPick : Prop :=
  ∀ s : State, s.phase = .running →
    let picked (u : State) : State :=
      match u.commandQ, u.enrol.find? (·.probeOwed) with
      | f :: rest, _ => { u with commandQ := rest, southTx := .command f }
      | [], some e => { u with southTx := .probe e.addr (probeFrame u.node e.addr) }
      | [], none => { u with southTx := .idle }
    (∀ f, s.southTx = .command f → exec .southTransmitComplete s = .next (picked s)) ∧
    (∀ addr f, s.southTx = .probe addr f →
      exec .probeTransmitComplete s = .next
        (picked
          { s with
            enrol := s.enrol.map (fun e =>
              if e.addr = addr ∧ e.state = .probing ∧ e.probeOwed = true then
                { e with attempts := e.attempts + 1, probeOwed := false,
                         deadline := some (s.now + BitVec.ofNat 32 s.settings.probeTimeout) }
              else e) }))

/-- What the frames the part builds carry: DIGEST (R37), ALARM of an entry (R92) and of the Overflow Record (R96), NOTICE (R164),
PROBE (R110) and MGMT_RSP (R127), each field at its offset of R178, and where the fields stand that it reads of a SAMPLE (R22), a
DESCRIPTOR (R113) and a MGMT_REQ (R125); what the images of the reads carry, each field at its offset
of R175, R176, R180 and R181, an absent field as 0 and an unassigned bit as 0 (R179); and the codes by value (R82, Table 6-1,
R127, R141, R147, R178, R180, R181). What an Enrolment List entry image gives for a deadline that is past is the value given, which
READ_ENROLMENT leaves free (log entry 17); EnrolLaw keeps the attempts at 8 or less. -/
def Obligations.BuiltFrames : Prop :=
  (∀ (node : NodeAddr) (addr : ChannelAddr) (number : BitVec 16) (d : Digest) (count : Nat) (gated active : Bool),
    let f := digestFrame node addr number d count gated active
    f.kind = .digest ∧ f.dest = 0 ∧ f.payload.length = 12 ∧ halfAt f.payload 0 = addr ∧ halfAt f.payload 2 = number ∧
    halfAt f.payload 4 = d.mean ∧ halfAt f.payload 6 = d.min ∧ halfAt f.payload 8 = d.max ∧
    byteAt f.payload 10 = BitVec.ofNat 8 count ∧ (byteAt f.payload 11).getLsbD 0 = gated ∧
    (byteAt f.payload 11).getLsbD 1 = active ∧ byteAt f.payload 11 &&& 0xFC = 0) ∧
  (∀ (node : NodeAddr) (e : AlarmEntry),
    let f := alarmFrame node e
    f.kind = .alarm ∧ f.dest = 0 ∧ f.payload.length = 18 ∧ halfAt f.payload 0 = e.addr ∧
    byteAt f.payload 2 = e.kind.code ∧ byteAt f.payload 3 = e.state.code ∧ halfAt f.payload 4 = e.episode ∧
    byteAt f.payload 6 = BitVec.ofNat 8 e.occurrence ∧ byteAt f.payload 7 = causeCode e.cause ∧
    halfAt f.payload 8 ++ halfAt f.payload 10 = e.firstActive ∧
    halfAt f.payload 12 ++ halfAt f.payload 14 = e.lastChange ∧ halfAt f.payload 16 = e.extreme) ∧
  (∀ (node : NodeAddr) (o : OverflowRecord),
    let f := overflowFrame node o
    f.kind = .alarm ∧ f.dest = 0 ∧ f.payload.length = 18 ∧ halfAt f.payload 0 = 0xFFFF#16 ∧
    byteAt f.payload 2 = 0x05 ∧ byteAt f.payload 3 = (match o.state with | .pending => 0x05 | .clear => 0x06) ∧
    halfAt f.payload 4 = 0 ∧ byteAt f.payload 6 = 0 ∧ byteAt f.payload 7 = 0 ∧
    halfAt f.payload 8 ++ halfAt f.payload 10 = o.firstLost.getD 0 ∧
    halfAt f.payload 12 ++ halfAt f.payload 14 = o.lastChange ∧ halfAt f.payload 16 = BitVec.ofNat 16 o.lostCount) ∧
  (∀ (node : NodeAddr) (lost : Nat) (n : Notice),
    let f := noticeFrame node lost n
    f.kind = .notice ∧ f.dest = 0 ∧ f.payload.length = 10 ∧ byteAt f.payload 0 = n.kind.code ∧
    byteAt f.payload 1 = BitVec.ofNat 8 lost ∧ halfAt f.payload 2 = n.addr ∧ halfAt f.payload 4 = n.detail ∧
    halfAt f.payload 6 ++ halfAt f.payload 8 = n.time) ∧
  (∀ (node : NodeAddr) (addr : ChannelAddr),
    let f := probeFrame node addr
    f.kind = .probe ∧ f.payload.length = 1 ∧ f.dest ++ byteAt f.payload 0 = addr) ∧
  (∀ (node dest : NodeAddr) (r : Response),
    let f := responseFrame node dest r
    f.kind = .mgmtRsp ∧ f.dest = dest ∧ f.payload.length = 3 + r.data.length ∧ byteAt f.payload 0 = r.id ∧
    byteAt f.payload 1 = r.code ∧ byteAt f.payload 2 = r.status.code ∧ f.payload.drop 3 = r.data) ∧
  (∀ (dest source channel seq flags : Byte) (value : Value),
    let f := sampleFrame dest source channel seq flags value
    f.kind = .sample ∧ f.dest = dest ∧ f.source = source ∧ f.payload.length = 5 ∧ byteAt f.payload 0 = channel ∧
    byteAt f.payload 1 = seq ∧ byteAt f.payload 2 = flags ∧ halfAt f.payload 3 = value) ∧
  (∀ (dest source channel classCode : Byte) (low high : Value) (period : BitVec 16),
    let f := descriptorFrame dest source channel classCode low high period
    f.kind = .descriptor ∧ f.dest = dest ∧ f.source = source ∧ f.payload.length = 8 ∧ byteAt f.payload 0 = channel ∧
    byteAt f.payload 1 = classCode ∧ halfAt f.payload 2 = low ∧ halfAt f.payload 4 = high ∧ halfAt f.payload 6 = period) ∧
  (∀ (h : ReqHeader) (code : Byte) (args : List Byte),
    let f := requestFrame h code args
    f.kind = .mgmtReq ∧ f.dest = h.dest ∧ f.source = h.source ∧ byteAt f.payload 0 = h.id ∧ byteAt f.payload 1 = code ∧
    f.payload.drop 2 = args) ∧
  (∀ c : RowConfig,
    let b := rowImage c
    let p := byteAt b 2
    b.length = 27 ∧ halfAt b 0 = c.addr ∧
    p.getLsbD 0 = c.classCode.isSome ∧ p.getLsbD 1 = c.lowLimit.isSome ∧ p.getLsbD 2 = c.highLimit.isSome ∧
    p.getLsbD 3 = c.tripLimit.isSome ∧ p.getLsbD 4 = c.gate.isSome ∧ p.getLsbD 5 = c.range.isSome ∧
    p.getLsbD 6 = c.tripOutput ∧ p.getLsbD 7 = false ∧
    byteAt b 3 = c.origin.code ∧ byteAt b 4 = c.classCode.getD 0 ∧ byteAt b 5 = c.policy.code ∧
    byteAt b 6 = BitVec.ofNat 8 c.depth ∧ halfAt b 7 = c.lowLimit.getD 0 ∧ halfAt b 9 = c.highLimit.getD 0 ∧
    halfAt b 11 = BitVec.ofNat 16 c.hysteresis ∧ byteAt b 13 = BitVec.ofNat 8 c.persistence ∧
    halfAt b 14 = c.tripLimit.getD 0 ∧ byteAt b 16 = BitVec.ofNat 8 c.tripPersistence ∧
    halfAt b 17 = BitVec.ofNat 16 c.staleWindow ∧
    halfAt b 19 = (c.gate.map Gate.addr).getD 0 ∧ halfAt b 21 = (c.gate.map Gate.threshold).getD 0 ∧
    halfAt b 23 = (c.range.map ValueRange.low).getD 0 ∧ halfAt b 25 = (c.range.map ValueRange.high).getD 0) ∧
  (∀ c : ClassEntry,
    let b := classImage c
    let p := byteAt b 1
    b.length = 13 ∧ byteAt b 0 = c.code ∧
    p.getLsbD 0 = c.lowPercent.isSome ∧ p.getLsbD 1 = c.highPercent.isSome ∧ p.getLsbD 2 = c.tripPercent.isSome ∧
    p.getLsbD 3 = c.tripOutput ∧ p &&& 0xF0 = 0 ∧
    byteAt b 2 = c.policy.code ∧ byteAt b 3 = BitVec.ofNat 8 c.depth ∧
    byteAt b 4 = BitVec.ofNat 8 (c.lowPercent.getD 0) ∧ byteAt b 5 = BitVec.ofNat 8 (c.highPercent.getD 0) ∧
    byteAt b 6 = BitVec.ofNat 8 c.hysteresisPercent ∧ byteAt b 7 = BitVec.ofNat 8 c.persistence ∧
    byteAt b 8 = BitVec.ofNat 8 (c.tripPercent.getD 0) ∧ byteAt b 9 = BitVec.ofNat 8 c.tripPersistence ∧
    byteAt b 10 = (match c.staleMode with | .none => 0x00 | .fixed _ => 0x01 | .auto => 0x02) ∧
    halfAt b 11 = (match c.staleMode with | .fixed w => BitVec.ofNat 16 w | .none | .auto => 0)) ∧
  (∀ (addr : ChannelAddr) (r : Runtime),
    let b := runtimeImage addr r
    let p := byteAt b 2
    let status := byteAt b 3
    b.length = 37 ∧ halfAt b 0 = addr ∧
    p.getLsbD 0 = r.windowMin.isSome ∧ p.getLsbD 1 = r.lastDigest.isSome ∧ p.getLsbD 2 = r.lastRaw.isSome ∧
    p.getLsbD 3 = r.lastSeq.isSome ∧ p.getLsbD 4 = r.staleDeadline.isSome ∧ p &&& 0xE0 = 0 ∧
    status.getLsbD 0 = r.low.active ∧ status.getLsbD 1 = r.high.active ∧ status.getLsbD 2 = r.trip.active ∧
    status.getLsbD 3 = r.stale ∧ status.getLsbD 4 = r.gateOpen ∧ status.getLsbD 5 = r.gapPending ∧ status &&& 0xC0 = 0 ∧
    halfAt b 4 ++ halfAt b 6 = BitVec.ofInt 32 r.sum ∧ byteAt b 8 = BitVec.ofNat 8 r.count ∧
    halfAt b 9 = r.windowMin.getD 0 ∧ halfAt b 11 = r.windowMax.getD 0 ∧
    halfAt b 13 = (r.lastDigest.map Digest.mean).getD 0 ∧ halfAt b 15 = (r.lastDigest.map Digest.min).getD 0 ∧
    halfAt b 17 = (r.lastDigest.map Digest.max).getD 0 ∧ halfAt b 19 = r.digestNumber ∧
    halfAt b 21 = r.lastRaw.getD 0 ∧ byteAt b 23 = r.lastSeq.getD 0 ∧
    halfAt b 24 = BitVec.ofNat 16 r.gapCount ∧ halfAt b 26 = BitVec.ofNat 16 r.dupCount ∧
    halfAt b 28 = BitVec.ofNat 16 r.dropCount ∧ byteAt b 30 = BitVec.ofNat 8 r.low.counter ∧
    byteAt b 31 = BitVec.ofNat 8 r.high.counter ∧ byteAt b 32 = BitVec.ofNat 8 r.trip.counter ∧
    halfAt b 33 ++ halfAt b 35 = r.staleDeadline.getD 0) ∧
  (∀ e : AlarmEntry,
    let b := alarmImage e
    b.length = 18 ∧ halfAt b 0 = e.addr ∧ byteAt b 2 = e.kind.code ∧ byteAt b 3 = e.state.code ∧ halfAt b 4 = e.episode ∧
    byteAt b 6 = BitVec.ofNat 8 e.occurrence ∧ byteAt b 7 &&& 0x7F = causeCode e.cause ∧
    (byteAt b 7).getLsbD 7 = e.reportOwed ∧ halfAt b 8 ++ halfAt b 10 = e.firstActive ∧
    halfAt b 12 ++ halfAt b 14 = e.lastChange ∧ halfAt b 16 = e.extreme) ∧
  (∀ o : OverflowRecord,
    let b := overflowImage o
    b.length = 8 ∧ halfAt b 0 = BitVec.ofNat 16 o.lostCount ∧
    byteAt b 2 = (match o.state with | .pending => 0x05 | .clear => 0x06) ∧
    (byteAt b 3).getLsbD 0 = o.firstLost.isSome ∧ (byteAt b 3).getLsbD 1 = o.reportOwed ∧ byteAt b 3 &&& 0xFC = 0 ∧
    halfAt b 4 ++ halfAt b 6 = o.firstLost.getD 0) ∧
  (∀ (now : Time) (overdue : Nat) (e : EnrolEntry), e.attempts ≤ 8 →
    let b := enrolImage now overdue e
    b.length = 11 ∧ halfAt b 0 = e.addr ∧ byteAt b 2 = e.state.code ∧ byteAt b 3 &&& 0x0F = BitVec.ofNat 8 e.attempts ∧
    (byteAt b 3).getLsbD 4 = e.probeOwed ∧ (byteAt b 3).getLsbD 5 = e.deadline.isSome ∧ byteAt b 3 &&& 0xC0 = 0 ∧
    byteAt b 4 = (match e.reason with | none => 0x00 | some reason => reason.code) ∧
    (e.deadline = none → halfAt b 5 = 0) ∧
    (∀ d, e.deadline = some d → 0 ≤ (d - now).toInt → halfAt b 5 = BitVec.ofNat 16 (d - now).toNat) ∧
    (∀ d, e.deadline = some d → (d - now).toInt < 0 → halfAt b 5 = BitVec.ofNat 16 overdue) ∧
    halfAt b 7 ++ halfAt b 9 = e.created) ∧
  (∀ e : Element,
    let b := elementImage e
    b.length = 6 ∧ halfAt b 0 = e.value ∧ byteAt b 2 = e.seq ∧ byteAt b 3 = e.flags ∧ halfAt b 4 = e.arrival) ∧
  (∀ c : PortCounters,
    let b := portImage c
    b.length = 20 ∧ halfAt b 0 ++ halfAt b 2 = c.goodFrames ∧ halfAt b 4 ++ halfAt b 6 = c.checkErrors ∧
    halfAt b 8 ++ halfAt b 10 = c.lengthErrors ∧ halfAt b 12 ++ halfAt b 14 = c.unknownKinds ∧
    halfAt b 16 ++ halfAt b 18 = c.misdirected) ∧
  (∀ c : PartCounters,
    let b := partImage c
    b.length = 20 ∧ halfAt b 0 ++ halfAt b 2 = c.forwardDrops ∧ halfAt b 4 ++ halfAt b 6 = c.commandDrops ∧
    halfAt b 8 ++ halfAt b 10 = c.requestsDiscarded ∧ halfAt b 12 ++ halfAt b 14 = c.enrolListFull ∧
    halfAt b 16 ++ halfAt b 18 = c.noticesLost) ∧
  (AlarmKind.low.code = 0x01 ∧ AlarmKind.high.code = 0x02 ∧ AlarmKind.trip.code = 0x03 ∧ AlarmKind.stale.code = 0x04) ∧
  (AlarmState.activeUnack.code = 0x01 ∧ AlarmState.activeAck.code = 0x02 ∧ AlarmState.clearUnack.code = 0x03 ∧
    AlarmState.closed.code = 0x04) ∧
  (causeCode none = 0x00 ∧ causeCode (some .cleared) = 0x01 ∧ causeCode (some .acked) = 0x02 ∧
    causeCode (some .retired) = 0x03) ∧
  (NoticeKind.enrolled.code = 0x01 ∧ NoticeKind.refused.code = 0x02 ∧ NoticeKind.probeFailed.code = 0x03 ∧
    NoticeKind.sessionExpired.code = 0x04 ∧ NoticeKind.captureDone.code = 0x05 ∧ NoticeKind.captureAborted.code = 0x06) ∧
  (Status.ok.code = 0x00 ∧ Status.unknownRequest.code = 0x01 ∧ Status.badRequest.code = 0x02 ∧
    Status.noSession.code = 0x03 ∧ Status.sessionHeld.code = 0x04 ∧ Status.notFound.code = 0x05 ∧
    Status.exists.code = 0x06 ∧ Status.stagingFull.code = 0x07 ∧ Status.badRow.code = 0x08 ∧ Status.tableFull.code = 0x09 ∧
    Status.classFull.code = 0x0A ∧ Status.staleEpisode.code = 0x0B ∧ Status.stillActive.code = 0x0C ∧
    Status.captureState.code = 0x0D ∧ Status.mode.code = 0x0E) ∧
  (EnrolState.probing.code = 0x01 ∧ EnrolState.failed.code = 0x02 ∧ EnrolState.refused.code = 0x03) ∧
  (RefuseReason.malformed.code = 0x01 ∧ RefuseReason.unknownClass.code = 0x02 ∧ RefuseReason.tableFull.code = 0x03) ∧
  (Policy.pass.code = 0x00 ∧ Policy.digest.code = 0x01 ∧ Policy.quiet.code = 0x02 ∧ Policy.block.code = 0x03) ∧
  (Origin.managed.code = 0x00 ∧ Origin.enrolled.code = 0x01) ∧
  (EnrolMode.off.code = 0x00 ∧ EnrolMode.manual.code = 0x01 ∧ EnrolMode.auto.code = 0x02) ∧
  (UnknownPolicy.forward.code = 0x00 ∧ UnknownPolicy.drop.code = 0x01) ∧
  (Latch.clear.code = 0x00 ∧ Latch.set.code = 0x01) ∧
  CaptureState.idle.code = 0x00 ∧ CaptureState.armed.code = 0x01 ∧ CaptureState.triggered.code = 0x02 ∧
    CaptureState.full.code = 0x03

/-! ### Samples -/

/-- SAMPLE_ARRIVAL at an address without a row: the frame is offered to the Forward Queue as received under FORWARD and
discarded under DROP (R24); the Enrolment Unit is told (R25) and creates an entry, counts a full list, or does nothing
(R108). -/
def Obligations.UnknownSample : Prop :=
  ∀ (dest source channel seq flags : Byte) (value : Value) (s : State),
    let f := sampleFrame dest source channel seq flags value
    let addr : ChannelAddr := source ++ channel
    let u := s.received .south
    let forwarded := match s.settings.unknown with
      | .forward => u.offerForward f
      | .drop => u
    let run := exec (.sampleArrival dest source channel seq flags value) s
    s.accepts .south f.bytes → rowAt s.rows addr = none →
    (s.settings.mode ≠ .auto ∨ (∃ e ∈ s.enrol, e.addr = addr) → run = .next forwarded) ∧
    (s.settings.mode = .auto → (∀ e ∈ s.enrol, e.addr ≠ addr) → s.enrol.length < 16 →
      run = .next (State.southJoined
        { forwarded with
          enrol := s.enrol ++ [{ addr, state := .probing, attempts := 0, probeOwed := true, deadline := none,
                                 reason := none, created := s.now }] })) ∧
    (s.settings.mode = .auto → (∀ e ∈ s.enrol, e.addr ≠ addr) → 16 ≤ s.enrol.length →
      run = .next { forwarded with
        partCounters := { forwarded.partCounters with enrolListFull := forwarded.partCounters.enrolListFull + 1 } })

/-- SAMPLE_ARRIVAL discarded: at a BLOCK row nothing changes (R26); a duplicate only adds one to the duplicate count, which
saturates at 65535 (R27, R42). -/
def Obligations.SampleDiscarded : Prop :=
  ∀ (dest source channel seq flags : Byte) (value : Value) (s : State) (row : Row),
    let f := sampleFrame dest source channel seq flags value
    let addr : ChannelAddr := source ++ channel
    let u := s.received .south
    let run := exec (.sampleArrival dest source channel seq flags value) s
    s.accepts .south f.bytes → rowAt s.rows addr = some row →
    (row.config.policy = .block → run = .next u) ∧
    (row.config.policy ≠ .block → row.rt.lastSeq = some seq → flags.getLsbD 1 = false →
      run = .next { u with
        rows := changeRow s.rows addr (fun r => { r with rt := { row.rt with dupCount := min 65535 (row.rt.dupCount + 1) } }) })

/-- SAMPLE_ARRIVAL with VALID clear: it is recorded, the rest of the record stays, the raw frame is offered under PASS only,
and the capture element is offered (R30, R36, R38, R39). -/
def Obligations.InvalidSample : Prop :=
  ∀ (dest source channel seq flags : Byte) (value : Value) (s : State) (row : Row),
    let f := sampleFrame dest source channel seq flags value
    let addr : ChannelAddr := source ++ channel
    let u := s.received .south
    let lost := match row.rt.lastSeq with
      | none => 0
      | some last => if flags.getLsbD 1 then 0 else (seq.toNat + 255 - last.toNat) % 256
    let rt := { row.rt with
      gapCount := min 65535 (row.rt.gapCount + lost), gapPending := row.rt.gapPending || lost != 0,
      lastSeq := some seq, lastRaw := some value }
    let raw := sampleFrame dest source channel seq (if rt.gapPending then flags ||| 0x04 else flags) value
    let element : Element := { value, seq, flags, arrival := s.now.extractLsb' 0 16 }
    let record (rt : Runtime) : State := { u with rows := changeRow s.rows addr (fun r => { r with rt }) }
    let run := exec (.sampleArrival dest source channel seq flags value) s
    s.accepts .south f.bytes → rowAt s.rows addr = some row → row.config.policy ≠ .block → flags.getLsbD 0 = false →
    (row.rt.lastSeq ≠ some seq ∨ flags.getLsbD 1 = true) →
    (row.config.policy ≠ .pass → run = .next (State.takeElement addr element (record rt))) ∧
    (row.config.policy = .pass → s.forwardQ.length < 64 →
      run = .next (State.takeElement addr element (State.offerForward raw (record { rt with gapPending := false })))) ∧
    (row.config.policy = .pass → 64 ≤ s.forwardQ.length →
      run = .next (State.takeElement addr element (State.offerForward raw
        (record { rt with gapPending := true, dropCount := min 65535 (row.rt.dropCount + 1) }))))

/-- SAMPLE_ARRIVAL conditioned: the next state is that of the steps of R31 in order, the Trip Latch set by a TRIP raise on a
row with trip output, then the record and the offer (the raw frame under PASS, the DIGEST frame of a digest completed under
DIGEST, nothing under QUIET), then the capture element, then the raises and clears in the order
issued (R20, R31, R36 to R40, R65, R68); and nothing outside the row's record, the latch, the Alarm Unit, the capture, the egress
side and the South port changes. -/
def Obligations.SampleConditioned : Prop :=
  ∀ (dest source channel seq flags : Byte) (value : Value) (s : State) (row : Row),
    let f := sampleFrame dest source channel seq flags value
    let addr : ChannelAddr := source ++ channel
    let m : Sample := { addr, seq, flags, value }
    let w := conditionRecord s.rows row.config s.now m row.rt
    let u := s.received .south
    let latched := if row.config.tripOutput = true ∧ (∃ time v, AlarmEvent.raise row.config.addr .trip time v ∈ w.issued)
      then .set else s.tripLatch
    let record (rt : Runtime) : State :=
      { u with tripLatch := latched, rows := changeRow s.rows addr (fun r => { r with rt }) }
    let offer : Option Frame :=
      match row.config.policy with
      | .pass => some (sampleFrame dest source channel seq (if w.rt.gapPending then flags ||| 0x04 else flags) value)
      | .digest =>
        w.digest.map (fun d => digestFrame s.node addr w.rt.digestNumber d row.config.depth (!w.rt.gateOpen)
          (w.rt.low.active || w.rt.high.active))
      | .quiet | .block => none
    let offered : State :=
      match offer with
      | none => record w.rt
      | some g =>
        if s.forwardQ.length < 64 then
          State.offerForward g
            (record (if row.config.policy = .pass then { w.rt with gapPending := false } else w.rt))
        else
          State.offerForward g (record { w.rt with gapPending := true, dropCount := min 65535 (w.rt.dropCount + 1) })
    let element : Element := { value, seq, flags, arrival := s.now.extractLsb' 0 16 }
    let t := State.takeAlarmEvents w.issued (State.takeElement addr element offered)
    s.accepts .south f.bytes → rowAt s.rows addr = some row → row.config.policy ≠ .block →
    (row.rt.lastSeq ≠ some seq ∨ flags.getLsbD 1 = true) →
    exec (.sampleArrival dest source channel seq flags value) s = .next t ∧
    t.tripLatch = latched ∧ t.rows = offered.rows ∧ (∀ r ∈ s.rows, r.config.addr ≠ addr → r ∈ t.rows) ∧
    t.pending = s.pending ∧ t.phase = s.phase ∧ t.node = s.node ∧ t.now = s.now ∧ t.classes = s.classes ∧
    t.settings = s.settings ∧ t.enrol = s.enrol ∧ t.session = s.session ∧ t.staging = s.staging ∧
    t.replay = s.replay ∧ t.commandQ = s.commandQ ∧ t.southTx = s.southTx ∧ t.northRx = s.northRx ∧
    t.northCounters = s.northCounters

/-- The gap count (R28, R29): the sequence numbers missing since the last one, modulo 256, are added, saturating at 65535, and
set gap pending; with RESTART, or with no last sequence, none are; last sequence and last raw value are recorded. -/
def Obligations.GapCounted : Prop :=
  ∀ (rows : List Row) (c : RowConfig) (now : Time) (m : Sample) (r : Runtime),
    let w := (conditionRecord rows c now m r).rt
    r.gapCount ≤ 65535 →
    w.lastSeq = some m.seq ∧ w.lastRaw = some m.value ∧
    (m.restart = true ∨ r.lastSeq = none → w.gapCount = r.gapCount ∧ w.gapPending = r.gapPending) ∧
    (∀ last, r.lastSeq = some last → m.restart = false → m.seq ≠ last →
      let lost := (m.seq.toNat + 255 - last.toNat) % 256
      w.gapCount = min 65535 (r.gapCount + lost) ∧ w.gapPending = (r.gapPending || lost != 0))

/-- A valid sample restarts the stale deadline of a row with a window, makes an active STALE inactive and issues its clear first
(R32, R74); a row without a window keeps both; an invalid one changes neither (R30). -/
def Obligations.StaleRestarted : Prop :=
  ∀ (rows : List Row) (c : RowConfig) (now : Time) (m : Sample) (r : Runtime),
    let w := conditionRecord rows c now m r
    (m.valid = true → c.staleWindow ≠ 0 →
      w.rt.stale = false ∧ w.rt.staleDeadline = some (now + BitVec.ofNat 32 c.staleWindow) ∧
      (r.stale = true → ∃ more, w.issued = AlarmEvent.clear c.addr .stale now :: more)) ∧
    (m.valid = false ∨ c.staleWindow = 0 → w.rt.stale = r.stale ∧ w.rt.staleDeadline = r.staleDeadline) ∧
    (r.stale = false → AlarmEvent.clear c.addr .stale now ∉ w.issued)

/-- TRIP at a valid sample of a row with a trip limit, by the zone of the value, the clear threshold on the full integers
(R65, R66, R67); without a trip limit, or at an invalid sample, nothing (R64). The counter of an inactive TRIP is below the trip
persistence, which RecordLaw keeps. -/
def Obligations.TripEvaluated : Prop :=
  ∀ (rows : List Row) (c : RowConfig) (now : Time) (m : Sample) (r : Runtime),
    let w := conditionRecord rows c now m r
    let raised := AlarmEvent.raise c.addr .trip now m.value ∈ w.issued
    let cleared := AlarmEvent.clear c.addr .trip now ∈ w.issued
    (m.valid = false ∨ c.tripLimit = none → w.rt.trip = r.trip ∧ ¬ raised ∧ ¬ cleared) ∧
    ∀ limit, m.valid = true → c.tripLimit = some limit →
      (limit.toInt < m.value.toInt → r.trip.active = false → r.trip.counter < c.tripPersistence → c.tripPersistence ≤ 4 →
        w.rt.trip.counter = r.trip.counter + 1 ∧
        (w.rt.trip.active = true ↔ r.trip.counter + 1 = c.tripPersistence) ∧
        (raised ↔ r.trip.counter + 1 = c.tripPersistence) ∧ ¬ cleared) ∧
      (limit.toInt < m.value.toInt → r.trip.active = true →
        w.rt.trip = { counter := min 4 (r.trip.counter + 1), active := true } ∧ ¬ raised ∧ ¬ cleared) ∧
      (limit.toInt - c.hysteresis < m.value.toInt → m.value.toInt ≤ limit.toInt →
        w.rt.trip = { counter := 0, active := r.trip.active } ∧ ¬ raised ∧ ¬ cleared) ∧
      (m.value.toInt ≤ limit.toInt → m.value.toInt ≤ limit.toInt - c.hysteresis →
        w.rt.trip = { counter := 0, active := false } ∧ ¬ raised ∧ (cleared ↔ r.trip.active = true))

/-- Accumulation and the digest (R33, R34, R35): a valid sample joins sum, count, min and max; the one that fills the depth
completes a digest with the mean truncated toward zero, numbers it, sets last digest and empties the accumulator; the mean
does not wrap in a record within its ranges. One that does not fill it leaves LOW, HIGH, their counters and gate open, and no LOW
or HIGH event is issued (R45, R51). -/
def Obligations.DigestCompleted : Prop :=
  ∀ (rows : List Row) (c : RowConfig) (now : Time) (m : Sample) (r : Runtime),
    let w := conditionRecord rows c now m r
    let sum := r.sum + m.value.toInt
    let low : Value := match r.windowMin with
      | none => m.value
      | some x => if m.value.toInt < x.toInt then m.value else x
    let high : Value := match r.windowMax with
      | none => m.value
      | some x => if x.toInt < m.value.toInt then m.value else x
    m.valid = true →
    (r.count + 1 ≠ c.depth →
      w.digest = none ∧ w.rt.sum = sum ∧ w.rt.count = r.count + 1 ∧ w.rt.windowMin = some low ∧
      w.rt.windowMax = some high ∧ w.rt.lastDigest = r.lastDigest ∧ w.rt.digestNumber = r.digestNumber ∧
      w.rt.low = r.low ∧ w.rt.high = r.high ∧ w.rt.gateOpen = r.gateOpen ∧
      ∀ event ∈ w.issued, event.kind ≠ .low ∧ event.kind ≠ .high) ∧
    (r.count + 1 = c.depth →
      ∃ mean : Value,
        w.digest = some { mean, min := low, max := high } ∧ w.rt.lastDigest = some { mean, min := low, max := high } ∧
        w.rt.digestNumber = r.digestNumber + 1 ∧ w.rt.sum = 0 ∧ w.rt.count = 0 ∧ w.rt.windowMin = none ∧
        w.rt.windowMax = none ∧
        (-(32768 * (r.count : Int)) ≤ r.sum → r.sum ≤ 32767 * (r.count : Int) →
          mean.toInt = sum.tdiv (c.depth : Int)))

/-- The gate at a digest (R46 to R49): a row without a gate finds it open; one with a gate finds it open exactly when the gate row
exists, its last digest is present with a mean at or above the threshold, and its STALE is inactive; the result is recorded;
a closed gate makes both counters 0 and both conditions inactive and issues the clears of the active ones. -/
def Obligations.GateEvaluated : Prop :=
  ∀ (rows : List Row) (c : RowConfig) (now : Time) (m : Sample) (r : Runtime),
    let w := conditionRecord rows c now m r
    let found := match c.gate with
      | none => True
      | some g => ∃ row d, rowAt rows g.addr = some row ∧ row.rt.lastDigest = some d ∧
          g.threshold.toInt ≤ d.mean.toInt ∧ row.rt.stale = false
    m.valid = true → r.count + 1 = c.depth →
    (w.rt.gateOpen = true ↔ found) ∧
    (¬ found →
      w.rt.low = { counter := 0, active := false } ∧ w.rt.high = { counter := 0, active := false } ∧
      (AlarmEvent.clear c.addr .low now ∈ w.issued ↔ r.low.active = true) ∧
      (AlarmEvent.clear c.addr .high now ∈ w.issued ↔ r.high.active = true) ∧
      ∀ kind time v, kind = .low ∨ kind = .high → AlarmEvent.raise c.addr kind time v ∉ w.issued)

/-- LOW and HIGH at a digest with the gate open, by the zone of its mean, thresholds on the full integers (R51 to R53, R55,
R56); an absent limit changes and issues nothing (R46). The counter of an inactive condition is below the persistence, which
RecordLaw keeps. What an arrival issues stands in the order STALE, TRIP, LOW, HIGH, at most one event of each (R31, R45). -/
def Obligations.LimitsEvaluated : Prop :=
  (∀ (rows : List Row) (c : RowConfig) (now : Time) (m : Sample) (r : Runtime) (d : Digest) (kind : AlarmKind),
    let w := conditionRecord rows c now m r
    let before := if kind = .low then r.low else r.high
    let after := if kind = .low then w.rt.low else w.rt.high
    let limit := if kind = .low then c.lowLimit else c.highLimit
    let beyond (l : Value) : Int := if kind = .low then l.toInt - d.mean.toInt else d.mean.toInt - l.toInt
    let raised := AlarmEvent.raise c.addr kind now d.mean ∈ w.issued
    let cleared := AlarmEvent.clear c.addr kind now ∈ w.issued
    kind = .low ∨ kind = .high → w.digest = some d → w.rt.gateOpen = true →
    (limit = none → after = before ∧ ¬ raised ∧ ¬ cleared) ∧
    ∀ l, limit = some l →
      (0 < beyond l → before.active = false → before.counter < c.persistence → c.persistence ≤ 15 →
        after.counter = before.counter + 1 ∧ (after.active = true ↔ before.counter + 1 = c.persistence) ∧
        (raised ↔ before.counter + 1 = c.persistence) ∧ ¬ cleared) ∧
      (0 < beyond l → before.active = true →
        after = { counter := min 15 (before.counter + 1), active := true } ∧ ¬ raised ∧ ¬ cleared) ∧
      (beyond l ≤ 0 → -(c.hysteresis : Int) < beyond l →
        after = { counter := 0, active := before.active } ∧ ¬ raised ∧ ¬ cleared) ∧
      (beyond l ≤ -(c.hysteresis : Int) →
        after = { counter := 0, active := false } ∧ ¬ raised ∧ (cleared ↔ before.active = true))) ∧
  ∀ (rows : List Row) (c : RowConfig) (now : Time) (m : Sample) (r : Runtime),
    ∃ stale trip low high : List AlarmEvent,
      (conditionRecord rows c now m r).issued = stale ++ trip ++ low ++ high ∧
      stale.length ≤ 1 ∧ trip.length ≤ 1 ∧ low.length ≤ 1 ∧ high.length ≤ 1 ∧
      (∀ event ∈ stale, event.kind = .stale) ∧ (∀ event ∈ trip, event.kind = .trip) ∧
      (∀ event ∈ low, event.kind = .low) ∧ ∀ event ∈ high, event.kind = .high

/-! ### The Alarm Unit -/

/-- STALE_EXPIRY of a deadline reached (R185): STALE becomes active, the deadline absent, and a raise of STALE with value 0 at the
expiry's time is taken by the Alarm Unit (R73). -/
def Obligations.StaleExpired : Prop :=
  ∀ (addr : ChannelAddr) (s : State) (row : Row) (deadline : Time),
    s.phase = .running → rowAt s.rows addr = some row → row.rt.staleDeadline = some deadline →
    0 ≤ (s.now - deadline).toInt →
    exec (.staleExpiry addr) s = .next
      (State.takeRaise addr .stale s.now 0
        { s with rows := changeRow s.rows addr (fun r =>
            { r with rt := { row.rt with stale := true, staleDeadline := none } }) })

/-- An expiry whose deadline is absent, moved on or not yet reached changes nothing (R185; that such a command is no event is log
entry 5). -/
def Obligations.ExpiryNotDue : Prop :=
  (∀ (addr : ChannelAddr) (s : State),
    (∀ row d, rowAt s.rows addr = some row → row.rt.staleDeadline = some d → (s.now - d).toInt < 0) →
    exec (.staleExpiry addr) s = .next s) ∧
  (∀ (addr : ChannelAddr) (s : State),
    (∀ e d, enrolAt s.enrol addr = some e → e.deadline = some d → e.state = .probing → (s.now - d).toInt < 0) →
    exec (.probeWaitExpiry addr) s = .next s) ∧
  (∀ (addr : ChannelAddr) (s : State),
    (∀ e d, enrolAt s.enrol addr = some e → e.deadline = some d → e.state ≠ .probing → (s.now - d).toInt < 0) →
    exec (.holdExpiry addr) s = .next s) ∧
  (∀ s : State, (∀ ses, s.session = some ses → (s.now - ses.deadline).toInt < 0) → exec .leaseExpiry s = .next s)

/-- A raise at the Alarm Unit: it creates an entry, goes to the Overflow Record at 64 entries, re-raises a CLEAR_UNACK entry or
reopens a CLOSED one, with a reference placed, and then gives its notice to the Capture Unit (R83, R84, R85, R90, R94, R98). A
clear makes ACTIVE_UNACK CLEAR_UNACK and ACTIVE_ACK CLOSED with cause CLEARED, with a report owed; any other clear is ignored
(R86, R90). -/
def Obligations.RaiseOrClearTaken : Prop :=
  ∀ (addr : ChannelAddr) (kind : AlarmKind) (time : Time) (v : Value) (s : State),
    let next := if s.episode = 65535#16 then 1#16 else s.episode + 1
    let first := if kind = .stale then 0 else v
    let changed (state : AlarmState) (cause : Option Cause) : State :=
      State.placeReference (.entry addr kind)
        { s with alarms := changeEntry s.alarms addr kind (fun x =>
            { x with state, cause, lastChange := time, reportOwed := true }) }
    let noticed (r : Reference) (u : State) := State.takeRaiseNotice addr time (State.placeReference r u)
    (entryAt s.alarms addr kind = none → s.alarms.length < 64 →
      s.takeRaise addr kind time v = noticed (.entry addr kind)
        { s with
          episode := next,
          alarms := s.alarms ++ [{ addr, kind, state := .activeUnack, episode := s.episode, occurrence := 1, cause := none,
                                   firstActive := time, lastChange := time, extreme := first, reportOwed := true }] }) ∧
    (entryAt s.alarms addr kind = none → 64 ≤ s.alarms.length →
      s.takeRaise addr kind time v = noticed .overflow
        { s with overflow :=
            { lostCount := min 65535 (s.overflow.lostCount + 1), state := .pending,
              firstLost := if s.overflow.state = .clear then some time else s.overflow.firstLost,
              lastChange := time, reportOwed := true } }) ∧
    (∀ e, entryAt s.alarms addr kind = some e → e.state = .clearUnack →
      s.takeRaise addr kind time v = noticed (.entry addr kind)
        { s with alarms := changeEntry s.alarms addr kind (fun x =>
            { x with
              state := .activeUnack, occurrence := min 255 (x.occurrence + 1), lastChange := time, reportOwed := true,
              extreme := match kind with
                | .high | .trip => if x.extreme.toInt < v.toInt then v else x.extreme
                | .low => if v.toInt < x.extreme.toInt then v else x.extreme
                | .stale => 0 }) }) ∧
    (∀ e, entryAt s.alarms addr kind = some e → e.state = .closed →
      s.takeRaise addr kind time v = noticed (.entry addr kind)
        { s with
          episode := next,
          alarms := changeEntry s.alarms addr kind (fun x =>
            { x with
              state := .activeUnack, episode := s.episode, occurrence := 1, cause := none, firstActive := time,
              lastChange := time, extreme := first, reportOwed := true }) }) ∧
    (entryAt s.alarms addr kind = none → s.takeClear addr kind time = s) ∧
    (∀ e, entryAt s.alarms addr kind = some e →
      (e.state = .activeUnack → s.takeClear addr kind time = changed .clearUnack none) ∧
      (e.state = .activeAck → s.takeClear addr kind time = changed .closed (some .cleared)) ∧
      (e.state = .clearUnack ∨ e.state = .closed → s.takeClear addr kind time = s))

/-- The output lines: while the part runs, TRIP is asserted exactly while the Trip Latch is SET (R68), and ALERT exactly while some
entry is in ACTIVE_UNACK or CLEAR_UNACK or the Overflow Record is PENDING (R97); from the assertion of RST_N both are released
(R187). -/
def Obligations.OutputLines : Prop :=
  ∀ s : State,
    (s.phase = .running →
      (s.tripLine = .asserted ↔ s.tripLatch = .set) ∧
      (s.alertLine = .asserted ↔
        (∃ e ∈ s.alarms, e.state = .activeUnack ∨ e.state = .clearUnack) ∨ s.overflow.state = .pending)) ∧
    (s.phase ≠ .running → s.tripLine = .released ∧ s.alertLine = .released)

/-- A reference is placed at the tail of the Report Queue unless it is held already; with the North transmitter idle and
nothing waiting its report is taken at once: the frame is built from the content as it stands, report owed is cleared, and a
CLOSED entry is freed (R91, R96, R159, R162). The pick at the joining is log entry 15. -/
def Obligations.ReferencePlaced : Prop :=
  ∀ (r : Reference) (s : State),
    (r ∈ s.reportQ → s.placeReference r = s) ∧
    (r ∉ s.reportQ → s.northTx ≠ none → s.placeReference r = { s with reportQ := s.reportQ ++ [r] }) ∧
    (s.phase = .running → s.NorthLaw → s.northTx = none →
      (∀ addr kind e, r = .entry addr kind → entryAt s.alarms addr kind = some e →
        s.placeReference r =
          { s with
            northTx := some (alarmFrame s.node e),
            alarms := if e.state = .closed then freeEntry s.alarms addr kind
              else changeEntry s.alarms addr kind (fun x => { x with reportOwed := false }) }) ∧
      (r = .overflow →
        s.placeReference r =
          { s with northTx := some (overflowFrame s.node s.overflow),
                   overflow := { s.overflow with reportOwed := false } }))

/-! ### The Enrolment Unit -/

/-- DESCRIPTOR_ARRIVAL: the frame is offered to the Forward Queue as a transit frame (R113); an entry in PROBING or FAILED takes
the descriptor, which refuses the entry with the first check that fails or inserts the built row and removes the entry, with
its notice (R114, R119, R122). That the offer comes before the Enrolment Unit's work is log entry 13. -/
def Obligations.DescriptorArrived : Prop :=
  ∀ (dest source channel classCode : Byte) (low high : Value) (period : BitVec 16) (s : State),
    let f := descriptorFrame dest source channel classCode low high period
    let addr : ChannelAddr := source ++ channel
    let d : Descriptor := { addr, classCode, rangeLow := low, rangeHigh := high, period }
    let u := (s.received .south).offerForward f
    let run := exec (.descriptorArrival dest source channel classCode low high period) s
    let refused (reason : RefuseReason) (code : BitVec 16) : State :=
      State.offerNotice { kind := .refused, addr, detail := code, time := s.now }
        { u with enrol := s.enrol.map (fun e =>
            if e.addr = addr then
              { e with state := .refused, probeOwed := false, deadline := some (s.now + 2000#32), reason := some reason }
            else e) }
    s.accepts .south f.bytes →
    ((∀ e, enrolAt s.enrol addr = some e → e.state = .refused) → run = .next u) ∧
    ∀ e, enrolAt s.enrol addr = some e → e.state ≠ .refused →
      (high.toInt < low.toInt → run = .next (refused .malformed 1)) ∧
      (low.toInt ≤ high.toInt → (∀ c ∈ s.classes, c.code ≠ classCode) → run = .next (refused .unknownClass 2)) ∧
      (∀ c, low.toInt ≤ high.toInt → classAt s.classes classCode = some c → 128 ≤ s.rows.length →
        run = .next (refused .tableFull 3)) ∧
      (∀ c, low.toInt ≤ high.toInt → classAt s.classes classCode = some c → s.rows.length < 128 →
        run = .next (State.offerNotice { kind := .enrolled, addr, detail := classCode.setWidth 16, time := s.now }
          { u with
            rows := insertRow { config := buildRow d c, rt := freshRecord (buildRow d c) s.now } s.rows,
            enrol := s.enrol.filter (fun e => e.addr != addr) }))

/-- The row built from a descriptor and its class (R115): limits and hysteresis from the percentages of the span, rounded down on
the full integers (R116), and the stale window from the stale mode and the nominal period (R117). It satisfies each check of R10
(R118). -/
def Obligations.RowBuilt : Prop :=
  ∀ (d : Descriptor) (c : ClassEntry), d.rangeLow.toInt ≤ d.rangeHigh.toInt → templateOk c = true →
    let row := buildRow d c
    let span := d.rangeHigh.toInt - d.rangeLow.toInt
    let placed (percent : Option Nat) (limit : Option Value) : Prop :=
      match percent, limit with
      | none, none => True
      | some p, some l => l.toInt = d.rangeLow.toInt + span * p / 100
      | _, _ => False
    row.addr = d.addr ∧ row.origin = .enrolled ∧ row.classCode = some d.classCode ∧ row.policy = c.policy ∧
    row.depth = c.depth ∧ row.persistence = c.persistence ∧ row.tripPersistence = c.tripPersistence ∧
    row.tripOutput = c.tripOutput ∧ placed c.lowPercent row.lowLimit ∧ placed c.highPercent row.highLimit ∧
    placed c.tripPercent row.tripLimit ∧ (row.hysteresis : Int) = span * c.hysteresisPercent / 100 ∧
    row.gate = none ∧ row.range = some { low := d.rangeLow, high := d.rangeHigh } ∧
    (c.staleMode = .none → row.staleWindow = 0) ∧ (∀ w, c.staleMode = .fixed w → row.staleWindow = w) ∧
    (c.staleMode = .auto → d.period = 0 → row.staleWindow = 0) ∧
    (c.staleMode = .auto → d.period ≠ 0 → row.staleWindow = min 60000 (max 10 (4 * d.period.toNat))) ∧
    row.valid

/-- PROBE_WAIT_EXPIRY of a deadline reached: another probe is owed while the attempts do not exceed the retries, else the entry
becomes FAILED for 2000 ms with NOTICE PROBE_FAILED (R112, R122). HOLD_EXPIRY of a deadline reached removes the entry and does
nothing else (R120). -/
def Obligations.EnrolmentExpired : Prop :=
  ∀ (addr : ChannelAddr) (s : State) (e : EnrolEntry) (deadline : Time),
    let changed (change : EnrolEntry → EnrolEntry) : State :=
      { s with enrol := s.enrol.map (fun x => if x.addr = addr then change x else x) }
    s.phase = .running → enrolAt s.enrol addr = some e → e.deadline = some deadline → 0 ≤ (s.now - deadline).toInt →
    (e.state = .probing → e.attempts ≤ s.settings.probeRetries →
      exec (.probeWaitExpiry addr) s = .next
        (State.southJoined (changed (fun x => { x with probeOwed := true, deadline := none })))) ∧
    (e.state = .probing → s.settings.probeRetries < e.attempts →
      exec (.probeWaitExpiry addr) s = .next
        (State.offerNotice { kind := .probeFailed, addr, detail := BitVec.ofNat 16 e.attempts, time := s.now }
          (changed (fun x => { x with state := .failed, deadline := some (s.now + 2000#32) })))) ∧
    (e.state ≠ .probing →
      exec (.holdExpiry addr) s = .next { s with enrol := s.enrol.filter (fun x => x.addr != addr) })

/-- ENROL, decided by the first line of R109's table that applies; and what an entry's coming to owe a probe does at the South
Arbiter: nothing under a busy transmitter; under an idle one the pick of R166, which is the Command Queue head if there is one,
else the probe of the oldest entry that owes one. That a broadcast is passed on after the agent has taken it is log entry 14. -/
def Obligations.EnrolDecided : Prop :=
  (∀ (h : ReqHeader) (args : List Byte) (s : State), s.runs .enrol h args →
    let addr := halfAt args 0
    let u := s.taken h
    let answered (status : Status) (data : List Byte) (v : State) :=
      exec (.enrol h args) s = .next (v.replied h 0x32 args { status, data })
    (s.settings.mode = .off → answered .mode [] u) ∧
    (∀ r, s.settings.mode ≠ .off → rowAt s.rows addr = some r → answered .exists [] u) ∧
    (s.settings.mode ≠ .off → rowAt s.rows addr = none →
      (∀ e, enrolAt s.enrol addr = some e → e.state = .probing → answered .ok [0x02] u) ∧
      (∀ e, enrolAt s.enrol addr = some e → e.state ≠ .probing →
        answered .ok [0x01] (State.southJoined { u with
          enrol := s.enrol.map (fun x => if x.addr = addr then
              { x with state := .probing, attempts := 0, probeOwed := true, deadline := none, reason := none } else x) })) ∧
      (enrolAt s.enrol addr = none → 16 ≤ s.enrol.length → answered .tableFull [] u) ∧
      (enrolAt s.enrol addr = none → s.enrol.length < 16 →
        answered .ok [0x00] (State.southJoined { u with
          enrol := s.enrol ++ [{ addr, state := .probing, attempts := 0, probeOwed := true, deadline := none,
                                 reason := none, created := s.now }] })))) ∧
  ∀ s : State,
    (s.southTx ≠ .idle → s.southJoined = s) ∧
    (∀ f rest, s.southTx = .idle → s.commandQ = f :: rest →
      s.southJoined = { s with commandQ := rest, southTx := .command f }) ∧
    (∀ before e after, s.southTx = .idle → s.commandQ = [] → s.enrol = before ++ e :: after →
      (∀ x ∈ before, x.probeOwed = false) → e.probeOwed = true →
      s.southJoined = { s with southTx := .probe e.addr (probeFrame s.node e.addr) })

/-! ### Request intake and sessions -/

/-- A request turned away: with 8 responses waiting it is discarded and counted and changes nothing else (R126); one that
repeats the id in the owner's Replay Slot is answered with the stored response, the lease renewed, and is not executed (R134);
an unknown code, a wrong argument length, no session and a session of another node are refused at steps 3 to 5 (R127, R133),
which changes nothing but the renewal and the Replay Slot. A broadcast is passed on in every case (R174). That this comes
after the agent has taken it is log entry 14. The codes, the argument lengths and which requests need a session are those of R182
and R133. -/
def Obligations.RequestTurnedAway : Prop :=
  (∀ (c : Instr) (h : ReqHeader) (code : Byte) (args : List Byte) (s : State), requestOf c = some (h, code, args) →
    let refused (status : Status) (data : List Byte) :=
      exec c s = .next ((s.taken h).replied h code args { status, data })
    (s.accepts .north (requestFrame h code args).bytes → args.length ≤ 46 → s.reaches h → 8 ≤ s.responseQ.length →
      exec c s = .next
        (State.passOn h code args
          { s.received .north with
            partCounters := { s.partCounters with requestsDiscarded := s.partCounters.requestsDiscarded + 1 } })) ∧
    (∀ r, s.admits h code args → s.repeats h → s.replay = some r →
      exec c s = .next (((s.taken h).placeResponse h.source r).passOn h code args)) ∧
    (s.admits h code args → ¬ s.repeats h →
      (requestKindOf code = none → refused .unknownRequest []) ∧
      ∀ kind, requestKindOf code = some kind →
        (args.length ≠ kind.argLength → refused .badRequest []) ∧
        (args.length = kind.argLength → kind.needsSession = true →
          (s.session = none → refused .noSession []) ∧
          (∀ ses, s.session = some ses → ses.owner ≠ h.source → refused .sessionHeld [ses.owner])))) ∧
  (∀ (code : Byte) (kind : RequestKind), requestKindOf code = some kind ↔ kind.code = code) ∧
  let is (kind : RequestKind) (code : Byte) (length : Nat) (session : Bool) : Prop :=
    kind.code = code ∧ kind.argLength = length ∧ kind.needsSession = session
  is .readPart 0x01 0 false ∧ is .readCounters 0x02 2 false ∧ is .listRows 0x03 1 false ∧ is .readRow 0x04 2 false ∧
  is .readState 0x05 2 false ∧ is .readAlarms 0x06 1 false ∧ is .readClass 0x07 1 false ∧ is .readCapture 0x08 3 false ∧
  is .readEnrolment 0x09 1 false ∧ is .openSession 0x10 2 false ∧ is .closeSession 0x11 0 false ∧ is .stageRow 0x20 27 true ∧
  is .stageDelete 0x21 2 true ∧ is .discard 0x22 0 true ∧ is .commit 0x23 0 true ∧ is .writeClass 0x28 13 true ∧
  is .deleteClass 0x29 1 true ∧ is .setPart 0x2A 4 true ∧ is .ackAlarm 0x30 5 false ∧ is .tripRelease 0x31 0 true ∧
  is .enrol 0x32 2 true ∧ is .captureArm 0x38 7 true ∧ is .captureTrigger 0x39 0 true ∧ is .captureAbort 0x3A 0 true ∧
  is .captureRelease 0x3B 0 true ∧ is .reset 0x3F 1 true

/-- A request's answer: the response goes into the Replay Slot when the session is open and the Source its owner, and nowhere
else (R134); its MGMT_RSP frame is placed at the tail of the Response Queue (R127, R161), and is transmitted at once when the
North transmitter is idle and nothing waits (R162). Step 1 renews the owner's lease and no other's (R130). -/
def Obligations.RequestAnswered : Prop :=
  ∀ (h : ReqHeader) (code : Byte) (a : Answer) (s : State),
    let r : Response := { id := h.id, code, status := a.status, data := a.data }
    let owned := ∃ ses, s.session = some ses ∧ ses.owner = h.source
    let f := responseFrame s.node h.source r
    (owned → (s.answer h code a).replay = some r) ∧ (¬ owned → (s.answer h code a).replay = s.replay) ∧
    (s.northTx ≠ none →
      s.answer h code a = { s with replay := (s.answer h code a).replay, responseQ := s.responseQ ++ [f] }) ∧
    (s.phase = .running → s.NorthLaw → s.northTx = none →
      s.answer h code a = { s with replay := (s.answer h code a).replay, northTx := some f }) ∧
    (∀ ses, s.session = some ses → ses.owner = h.source →
      s.renewLease h.source =
        { s with session := some { ses with deadline := s.now + BitVec.ofNat 32 ses.lease } }) ∧
    (¬ owned → s.renewLease h.source = s)

/-- OPEN_SESSION, CLOSE_SESSION and LEASE_EXPIRY by the session state (R129, R131, R132); and what any notice offered does at the
North Arbiter (R160): below 8 notices it joins the tail under a busy transmitter, or is sent at once by an idle one, with the
lost-notice count in its frame and that count then 0 (R164); at 8 only the lost-notice count, which saturates at 255, and the
notices-lost counter move. That a broadcast is passed on after the agent has taken it is log entry 14. -/
def Obligations.SessionChanged : Prop :=
  (∀ (h : ReqHeader) (args : List Byte) (s : State), s.runs .openSession h args →
    let lease := (halfAt args 0).toNat
    let deadline := s.now + BitVec.ofNat 32 lease
    let u := s.taken h
    let answered (status : Status) (data : List Byte) (v : State) :=
      exec (.openSession h args) s = .next (v.replied h 0x10 args { status, data })
    (lease < 100 ∨ 10000 < lease → answered .badRequest [] u) ∧
    (100 ≤ lease → lease ≤ 10000 →
      (s.session = none →
        answered .ok [0x00]
          { u with session := some { owner := h.source, lease, deadline }, staging := [], replay := none }) ∧
      (∀ ses, s.session = some ses → ses.owner = h.source →
        answered .ok [BitVec.ofNat 8 s.staging.length] { u with session := some { owner := h.source, lease, deadline } }) ∧
      (∀ ses, s.session = some ses → ses.owner ≠ h.source → answered .sessionHeld [ses.owner] u))) ∧
  (∀ (h : ReqHeader) (args : List Byte) (s : State), s.runs .closeSession h args →
    let u := s.taken h
    let answered (status : Status) (data : List Byte) (v : State) :=
      exec (.closeSession h args) s = .next (v.replied h 0x11 args { status, data })
    (s.session = none → answered .noSession [] u) ∧
    (∀ ses, s.session = some ses → ses.owner = h.source →
      answered .ok [BitVec.ofNat 8 s.staging.length] { u with session := none, staging := [], replay := none }) ∧
    (∀ ses, s.session = some ses → ses.owner ≠ h.source → answered .sessionHeld [ses.owner] u)) ∧
  (∀ (s : State) (ses : Session), s.phase = .running → s.session = some ses → 0 ≤ (s.now - ses.deadline).toInt →
    exec .leaseExpiry s = .next
      (State.offerNotice
        { kind := .sessionExpired, addr := 0x00#8 ++ ses.owner, detail := BitVec.ofNat 16 s.staging.length, time := s.now }
        { s with session := none, staging := [], replay := none })) ∧
  ∀ (n : Notice) (s : State),
    (s.noticeQ.length < 8 → s.northTx ≠ none → s.offerNotice n = { s with noticeQ := s.noticeQ ++ [n] }) ∧
    (s.phase = .running → s.NorthLaw → s.northTx = none →
      s.offerNotice n = { s with northTx := some (noticeFrame s.node s.lostNotices n), lostNotices := 0 }) ∧
    (8 ≤ s.noticeQ.length →
      s.offerNotice n =
        { s with
          lostNotices := min 255 (s.lostNotices + 1),
          partCounters := { s.partCounters with noticesLost := s.partCounters.noticesLost + 1 } })

/-! ### Staging, commit, classes, settings -/

/-- STAGE_ROW, STAGE_DELETE and DISCARD (R10, R135, R136): a refused image changes nothing; an item takes the place of the
item for its address, or is appended below 8 items, or is answered STAGING_FULL; DISCARD empties the list. That a broadcast is
passed on after the agent has taken it is log entry 14. -/
def Obligations.ItemStaged : Prop :=
  (∀ (h : ReqHeader) (args : List Byte) (s : State), s.runs .stageRow h args →
    let u := s.taken h
    let row := rowOfImage args
    let answered (status : Status) (data : List Byte) (v : State) :=
      exec (.stageRow h args) s = .next (v.replied h 0x20 args { status, data })
    (∀ reason, rowFault row (byteAt args 5) = some reason → answered .badRow [reason] u) ∧
    (rowFault row (byteAt args 5) = none →
      (∀ i, i < s.staging.length → (s.staging.map StagedItem.addr)[i]? = some row.addr →
        (∀ j, j < i → (s.staging.map StagedItem.addr)[j]? ≠ some row.addr) →
        answered .ok [BitVec.ofNat 8 i, BitVec.ofNat 8 s.staging.length] { u with staging := s.staging.set i (.row row) }) ∧
      (row.addr ∉ s.staging.map StagedItem.addr → s.staging.length < 8 →
        answered .ok [BitVec.ofNat 8 s.staging.length, BitVec.ofNat 8 (s.staging.length + 1)]
          { u with staging := s.staging ++ [.row row] }) ∧
      (row.addr ∉ s.staging.map StagedItem.addr → 8 ≤ s.staging.length → answered .stagingFull [] u))) ∧
  (∀ (h : ReqHeader) (args : List Byte) (s : State), s.runs .stageDelete h args →
    let u := s.taken h
    let addr := halfAt args 0
    let answered (status : Status) (data : List Byte) (v : State) :=
      exec (.stageDelete h args) s = .next (v.replied h 0x21 args { status, data })
    (∀ i, i < s.staging.length → (s.staging.map StagedItem.addr)[i]? = some addr →
      (∀ j, j < i → (s.staging.map StagedItem.addr)[j]? ≠ some addr) →
      answered .ok [BitVec.ofNat 8 i, BitVec.ofNat 8 s.staging.length] { u with staging := s.staging.set i (.delete addr) }) ∧
    (addr ∉ s.staging.map StagedItem.addr → s.staging.length < 8 →
      answered .ok [BitVec.ofNat 8 s.staging.length, BitVec.ofNat 8 (s.staging.length + 1)]
        { u with staging := s.staging ++ [.delete addr] }) ∧
    (addr ∉ s.staging.map StagedItem.addr → 8 ≤ s.staging.length → answered .stagingFull [] u)) ∧
  (∀ (h : ReqHeader) (args : List Byte) (s : State), s.runs .discard h args →
    exec (.discard h args) s = .next
      ({ s.taken h with staging := [] }.replied h 0x22 args
        { status := .ok, data := [BitVec.ofNat 8 s.staging.length] }))

/-- The checks of a row image in the order of Table 1-3 (R10): the reason is that of the first check that fails. -/
def Obligations.RowChecked : Prop :=
  ∀ (c : RowConfig) (policy : Byte),
    let depth := c.depth ∈ [1, 2, 4, 8, 16, 32, 64]
    let persistence := 1 ≤ c.persistence ∧ c.persistence ≤ 15 ∧ 1 ≤ c.tripPersistence ∧ c.tripPersistence ≤ 4
    let limits := c.hysteresis ≤ 32767 ∧
      ∀ l h, c.lowLimit = some l → c.highLimit = some h → l.toInt + c.hysteresis ≤ h.toInt - c.hysteresis
    let window := c.staleWindow = 0 ∨ (10 ≤ c.staleWindow ∧ c.staleWindow ≤ 60000)
    let gate := ∀ g, c.gate = some g → g.addr ≠ c.addr
    let known := policy.toNat ≤ 3
    let range := ∀ r, c.range = some r → r.low.toInt ≤ r.high.toInt
    (¬ depth → rowFault c policy = some 0x01) ∧
    (depth → ¬ persistence → rowFault c policy = some 0x02) ∧
    (depth → persistence → ¬ limits → rowFault c policy = some 0x03) ∧
    (depth → persistence → limits → ¬ window → rowFault c policy = some 0x04) ∧
    (depth → persistence → limits → window → ¬ gate → rowFault c policy = some 0x05) ∧
    (depth → persistence → limits → window → gate → ¬ known → rowFault c policy = some 0x06) ∧
    (depth → persistence → limits → window → gate → known → ¬ range → rowFault c policy = some 0x07) ∧
    (depth → persistence → limits → window → gate → known → range → rowFault c policy = none)

/-- COMMIT (R137, R138): refused with TABLE_FULL when the rows held plus inserts minus deletions exceed 128, with the first position
at which they do so over the items up to it; otherwise every item is applied in staging order and the Staging List is emptied. An
item inserts (R16), replaces (R17) or deletes (R18) the row of its address, or does nothing; an inserted row stands in address
order, with the fresh record of R15. A retirement (R89) makes every entry of the address CLOSED with cause RETIRED, its report
owed, an entry already CLOSED among them, and places the references not yet held in table order, of which an idle transmitter
sends the first at its joining (log entry 15); no entry of another address changes, and an address with no entries changes nothing.
The order of a deletion's effects is log entry 16. What the items offer joins before the response, in R138's order. That a broadcast
is passed on after the agent has taken it is log entry 14. TablesLaw keeps the rows at 128 and the items at 8; AlarmLaw is kept. -/
def Obligations.CommitApplied : Prop :=
  (∀ (h : ReqHeader) (args : List Byte) (s : State), s.runs .commit h args →
    let u := s.taken h
    let held (i : StagedItem) : Bool := (rowAt s.rows i.addr).isSome
    let isRow (i : StagedItem) : Bool := match i with | .row _ => true | .delete _ => false
    let inserts := s.staging.countP (fun i => isRow i && !held i)
    let replacements := s.staging.countP (fun i => isRow i && held i)
    let deletions := s.staging.countP (fun i => !isRow i && held i)
    let exceeds (items : Nat) : Prop :=
      128 < s.rows.length + (s.staging.take items).countP (fun i => isRow i && !held i)
        - (s.staging.take items).countP (fun i => !isRow i && held i)
    let position := overflowPosition s.rows s.rows.length 0 s.staging
    (128 < s.rows.length + inserts - deletions →
      exec (.commit h args) s = .next (u.replied h 0x23 args
        { status := .tableFull, data := [BitVec.ofNat 8 position] })) ∧
    (128 < s.rows.length + inserts - deletions → s.rows.length ≤ 128 → s.staging.length ≤ 8 →
      position < s.staging.length ∧ exceeds (position + 1) ∧ ∀ earlier, earlier < position → ¬ exceeds (earlier + 1)) ∧
    (s.rows.length + inserts - deletions ≤ 128 →
      exec (.commit h args) s = .next
        (State.replied h 0x23 args
          { status := .ok,
            data := [BitVec.ofNat 8 inserts, BitVec.ofNat 8 replacements, BitVec.ofNat 8 deletions] }
          { s.staging.foldl State.applyItem u with staging := [] }))) ∧
  (∀ (s : State) (c : RowConfig),
    let row : Row := { config := c, rt := freshRecord c s.now }
    (rowAt s.rows c.addr = none →
      s.applyItem (.row c) =
        { s with rows := insertRow row s.rows, enrol := s.enrol.filter (fun e => e.addr != c.addr) }) ∧
    (∀ r, rowAt s.rows c.addr = some r →
      s.applyItem (.row c) = State.retire c.addr { s with rows := changeRow s.rows c.addr (fun _ => row) })) ∧
  (∀ (s : State) (addr : ChannelAddr),
    (rowAt s.rows addr = none → s.applyItem (.delete addr) = s) ∧
    (∀ r, rowAt s.rows addr = some r →
      let v := State.retire addr { s with rows := s.rows.filter (fun r => r.config.addr != addr) }
      s.applyItem (.delete addr) =
        if v.capture.channel = some addr ∧ (v.capture.state = .armed ∨ v.capture.state = .triggered) then
          State.offerNotice
            { kind := .captureAborted, addr, detail := BitVec.ofNat 16 v.capture.buffer.length, time := v.now }
            { v with capture := { v.capture with
                state := .idle, channel := none, triggerIndex := none, triggerTime := none, buffer := [] } }
        else v)) ∧
  (∀ (c : RowConfig) (now : Time),
    freshRecord c now =
      { sum := 0, count := 0, windowMin := none, windowMax := none, lastDigest := none, digestNumber := 0, lastRaw := none,
        lastSeq := none, gapCount := 0, dupCount := 0, dropCount := 0, gapPending := false,
        low := { counter := 0, active := false }, high := { counter := 0, active := false },
        trip := { counter := 0, active := false }, stale := false, gateOpen := c.gate.isNone,
        staleDeadline := if c.staleWindow ≠ 0 ∧ c.policy ≠ .block then some (now + BitVec.ofNat 32 c.staleWindow) else none }) ∧
  (∀ (row : Row) (before after : List Row), (∀ r ∈ before, r.config.addr < row.config.addr) →
    (∀ r ∈ after, row.config.addr < r.config.addr) → insertRow row (before ++ after) = before ++ row :: after) ∧
  ∀ (s : State) (addr : ChannelAddr), s.AlarmLaw →
    let retired (e : AlarmEntry) : AlarmEntry :=
      if e.addr = addr then
        { e with state := .closed, cause := some .retired, lastChange := s.now, reportOwed := true } else e
    let reference (e : AlarmEntry) : Reference := .entry e.addr e.kind
    (s.northTx ≠ none →
      s.retire addr =
        { s with
          alarms := s.alarms.map retired,
          reportQ := s.reportQ ++
            ((s.alarms.filter (fun e => e.addr = addr)).map reference).filter (fun r => r ∉ s.reportQ) }) ∧
    ((∀ e ∈ s.alarms, e.addr ≠ addr) → s.retire addr = s) ∧
    (∀ before e after, s.phase = .running → s.NorthLaw → s.northTx = none → s.alarms = before ++ e :: after →
      (∀ x ∈ before, x.addr ≠ addr) → e.addr = addr →
      s.retire addr =
        { s with
          northTx := some (alarmFrame s.node (retired e)), alarms := (before ++ after).map retired,
          reportQ := (after.filter (fun x => x.addr = addr)).map reference })

/-- WRITE_CLASS and DELETE_CLASS (R140), a new class standing in code order (R11), and the template checks (R12). That a
broadcast is passed on after the agent has taken it is log entry 14. -/
def Obligations.ClassWritten : Prop :=
  (∀ (h : ReqHeader) (args : List Byte) (s : State), s.runs .writeClass h args →
    let u := s.taken h
    let c := classOfImage args
    let answered (status : Status) (data : List Byte) (v : State) :=
      exec (.writeClass h args) s = .next (v.replied h 0x28 args { status, data })
    (byteAt args 0 = 0 → answered .badRequest [] u) ∧
    (byteAt args 0 ≠ 0 → classImageOk args = false → answered .badRow [0x08] u) ∧
    (byteAt args 0 ≠ 0 → classImageOk args = true →
      ((∃ x ∈ s.classes, x.code = byteAt args 0) →
        answered .ok [0x01] { u with classes := s.classes.map (fun x => if x.code = byteAt args 0 then c else x) }) ∧
      ((∀ x ∈ s.classes, x.code ≠ byteAt args 0) → s.classes.length < 16 →
        answered .ok [0x00] { u with classes := insertClass c s.classes }) ∧
      ((∀ x ∈ s.classes, x.code ≠ byteAt args 0) → 16 ≤ s.classes.length → answered .classFull [] u))) ∧
  (∀ (h : ReqHeader) (args : List Byte) (s : State), s.runs .deleteClass h args →
    let u := s.taken h
    let answered (status : Status) (data : List Byte) (v : State) :=
      exec (.deleteClass h args) s = .next (v.replied h 0x29 args { status, data })
    ((∃ x ∈ s.classes, x.code = byteAt args 0) →
      answered .ok [] { u with classes := s.classes.filter (fun x => x.code != byteAt args 0) }) ∧
    ((∀ x ∈ s.classes, x.code ≠ byteAt args 0) → answered .notFound [] u)) ∧
  (∀ (c : ClassEntry) (before after : List ClassEntry), (∀ x ∈ before, x.code < c.code) → (∀ x ∈ after, c.code < x.code) →
    insertClass c (before ++ after) = before ++ c :: after) ∧
  (∀ args : List Byte,
    let c := classOfImage args
    classImageOk args = true ↔
      (byteAt args 2).toNat ≤ 3 ∧ (byteAt args 10).toNat ≤ 2 ∧ c.depth ∈ [1, 2, 4, 8, 16, 32, 64] ∧
      (1 ≤ c.persistence ∧ c.persistence ≤ 15) ∧ (1 ≤ c.tripPersistence ∧ c.tripPersistence ≤ 4) ∧
      (∀ p, c.lowPercent = some p → p ≤ 100) ∧ (∀ p, c.highPercent = some p → p ≤ 100) ∧
      (∀ p, c.tripPercent = some p → p ≤ 100) ∧ c.hysteresisPercent ≤ 25 ∧
      (∀ l h, c.lowPercent = some l → c.highPercent = some h → l + 2 * c.hysteresisPercent ≤ h) ∧
      ∀ w, c.staleMode = .fixed w → 10 ≤ w ∧ w ≤ 60000)

/-- SET_PART (R141): four settings in their ranges replace the settings, mode OFF removing every Enrolment List entry (R121);
any other value is BAD_REQUEST and changes nothing. That a broadcast is passed on after the agent has taken it is log entry
14. -/
def Obligations.PartSet : Prop :=
  ∀ (h : ReqHeader) (args : List Byte) (s : State), s.runs .setPart h args →
    let u := s.taken h
    let timeout := (byteAt args 2).toNat
    let retries := (byteAt args 3).toNat
    (∀ mode unknown, byteAt args 0 = mode.code → byteAt args 1 = unknown.code → 5 ≤ timeout → timeout ≤ 250 → retries ≤ 7 →
      exec (.setPart h args) s = .next
        (State.replied h 0x2A args { status := .ok, data := [] }
          { u with
            settings := { mode, unknown, probeTimeout := timeout, probeRetries := retries },
            enrol := if mode = .off then [] else s.enrol })) ∧
    (2 < (byteAt args 0).toNat ∨ 1 < (byteAt args 1).toNat ∨ timeout < 5 ∨ 250 < timeout ∨ 7 < retries →
      exec (.setPart h args) s = .next (u.replied h 0x2A args { status := .badRequest, data := [] }))

/-! ### Reads -/

/-- READ_PART and READ_COUNTERS (R143, R176): the data, and the clear option. The lease remaining is the deadline minus the
time of the request while that is not negative; past the deadline it is any value in 0 to 10000 (log entry 17). The request's
own frame is counted (log entry 25). That a broadcast is passed on after the agent has taken it is log entry 14. -/
def Obligations.PartRead : Prop :=
  (∀ (h : ReqHeader) (args : List Byte) (s : State), s.runs .readPart h args →
    ∃ reads remaining : Nat,
      exec (.readPart h args) s = .next
        (State.replied h 0x01 args
          { status := .ok,
            data := [s.settings.mode.code, s.settings.unknown.code, BitVec.ofNat 8 s.settings.probeTimeout,
                BitVec.ofNat 8 s.settings.probeRetries] ++
              (match s.session with
                | none => [0, 0, 0, 0]
                | some ses => [1, ses.owner] ++ be16 (BitVec.ofNat 16 remaining)) ++
              [BitVec.ofNat 8 s.rows.length, BitVec.ofNat 8 s.classes.length, BitVec.ofNat 8 s.alarms.length,
                BitVec.ofNat 8 s.enrol.length, BitVec.ofNat 8 s.staging.length, s.tripLatch.code,
                s.capture.state.code] ++ be32 s.now }
          { s.taken h with freeReads := reads }) ∧
      ∀ ses, (s.taken h).session = some ses →
        (0 ≤ (ses.deadline - s.now).toInt → remaining = (ses.deadline - s.now).toNat) ∧
        ((ses.deadline - s.now).toInt < 0 → remaining ≤ 10000)) ∧
  (∀ (h : ReqHeader) (args : List Byte) (s : State), s.runs .readCounters h args →
    let u := s.taken h
    let group := byteAt args 0
    let clear := byteAt args 1
    let answered (status : Status) (data : List Byte) (v : State) :=
      exec (.readCounters h args) s = .next (v.replied h 0x02 args { status, data })
    (¬ (group = 1 ∨ group = 2 ∨ group = 3) ∨ ¬ (clear = 0 ∨ clear = 1) → answered .badRequest [] u) ∧
    (clear = 0 → (group = 1 → answered .ok (portImage u.northCounters) u) ∧
      (group = 2 → answered .ok (portImage u.southCounters) u) ∧ (group = 3 → answered .ok (partImage u.partCounters) u)) ∧
    (clear = 1 →
      (group = 1 → answered .ok (portImage u.northCounters) { u with northCounters := PortCounters.initial }) ∧
      (group = 2 → answered .ok (portImage u.southCounters) { u with southCounters := PortCounters.initial }) ∧
      (group = 3 → answered .ok (partImage u.partCounters) { u with partCounters := PartCounters.initial })))

/-- The table reads change nothing but the lease and give the state as it stands at the request (R144): LIST_ROWS, READ_ROW,
READ_STATE, READ_ALARMS, READ_CLASS, READ_ENROLMENT. A deadline remaining past its deadline is any value in 0 to 2000 (log
entry 17). That a broadcast is passed on after the agent has taken it is log entry 14. -/
def Obligations.TableRead : Prop :=
  ∀ (h : ReqHeader) (args : List Byte) (s : State),
    let u := s.taken h
    let start := (byteAt args 0).toNat
    let addr := halfAt args 0
    let answered (c : Instr) (code : Byte) (status : Status) (data : List Byte) :=
      exec c s = .next (u.replied h code args { status, data })
    (s.runs .listRows h args →
      answered (.listRows h args) 0x03 .ok
        (BitVec.ofNat 8 s.rows.length :: ((s.rows.drop start).take 20).flatMap (fun r => be16 r.config.addr))) ∧
    (s.runs .readRow h args →
      (∀ r, rowAt s.rows addr = some r → answered (.readRow h args) 0x04 .ok (rowImage r.config)) ∧
      (rowAt s.rows addr = none → answered (.readRow h args) 0x04 .notFound [])) ∧
    (s.runs .readState h args →
      (∀ r, rowAt s.rows addr = some r → answered (.readState h args) 0x05 .ok (runtimeImage addr r.rt)) ∧
      (rowAt s.rows addr = none → answered (.readState h args) 0x05 .notFound [])) ∧
    (s.runs .readAlarms h args →
      (start = 0 → answered (.readAlarms h args) 0x06 .ok
        (BitVec.ofNat 8 s.alarms.length :: (overflowImage s.overflow ++ (s.alarms.take 2).flatMap alarmImage))) ∧
      (start ≠ 0 → answered (.readAlarms h args) 0x06 .ok
        (BitVec.ofNat 8 s.alarms.length :: ((s.alarms.drop start).take 2).flatMap alarmImage))) ∧
    (s.runs .readClass h args →
      (∀ c, classAt s.classes (byteAt args 0) = some c → answered (.readClass h args) 0x07 .ok (classImage c)) ∧
      (classAt s.classes (byteAt args 0) = none → answered (.readClass h args) 0x07 .notFound [])) ∧
    (s.runs .readEnrolment h args →
      ∃ (reads : Nat) (overdue : Nat → Nat), (∀ i, overdue i ≤ 2000) ∧
        exec (.readEnrolment h args) s = .next
          (State.replied h 0x09 args
            { status := .ok,
              data := BitVec.ofNat 8 s.enrol.length ::
                (((s.enrol.drop start).take 4).zipIdx start).flatMap (fun p => enrolImage s.now (overdue p.2) p.1) }
            { u with freeReads := reads }))

/-! ### Alarms, the latch, the capture -/

/-- ACK_ALARM (R87, R95): the argument checks, the entry by its episode and state, and the Overflow Record. That the reference is
placed before the response is log entry 26. That a broadcast is passed on after the agent has taken it is log entry 14. -/
def Obligations.AlarmAcknowledged : Prop :=
  ∀ (h : ReqHeader) (args : List Byte) (s : State), s.runs .ackAlarm h args →
    let u := s.taken h
    let addr := halfAt args 0
    let code := byteAt args 2
    let episode := halfAt args 3
    let answered (status : Status) (data : List Byte) (v : State) :=
      exec (.ackAlarm h args) s = .next (v.replied h 0x30 args { status, data })
    let changed (kind : AlarmKind) (state : AlarmState) (cause : Option Cause) : State :=
      State.placeReference (.entry addr kind)
        { u with alarms := changeEntry s.alarms addr kind (fun x =>
            { x with state, cause, lastChange := s.now, reportOwed := true }) }
    (code.toNat = 0 ∨ 5 < code.toNat → answered .badRequest [] u) ∧
    (code = 0x05 → addr ≠ 0xFFFF#16 ∨ episode ≠ 0 → answered .badRequest [] u) ∧
    (code = 0x05 → addr = 0xFFFF#16 → episode = 0 →
      (s.overflow.state = .pending →
        answered .ok (0x06 :: be16 (BitVec.ofNat 16 s.overflow.lostCount))
          (State.placeReference .overflow { u with
            overflow := { lostCount := 0, state := .clear, firstLost := none, lastChange := s.now, reportOwed := true } })) ∧
      (s.overflow.state = .clear → answered .ok [0x06, 0, 0] u)) ∧
    ∀ kind, code = AlarmKind.code kind →
      (episode = 0 → answered .badRequest [] u) ∧
      (episode ≠ 0 → entryAt s.alarms addr kind = none → answered .notFound [] u) ∧
      ∀ e, episode ≠ 0 → entryAt s.alarms addr kind = some e →
        (e.episode ≠ episode → answered .staleEpisode (be16 e.episode) u) ∧
        (e.episode = episode →
          (e.state = .activeUnack → answered .ok [0x02] (changed kind .activeAck none)) ∧
          (e.state = .clearUnack → answered .ok [0x04] (changed kind .closed (some .acked))) ∧
          (e.state = .activeAck → answered .ok [0x02] u) ∧
          (e.state = .closed → answered .ok [0x04] u))

/-- TRIP_RELEASE by the latch and the rows with trip output enabled and TRIP active (R69). That a broadcast is passed on after
the agent has taken it is log entry 14. -/
def Obligations.TripReleased : Prop :=
  ∀ (h : ReqHeader) (args : List Byte) (s : State), s.runs .tripRelease h args →
    let u := s.taken h
    let holding := s.rows.filter (fun r => r.config.tripOutput && r.rt.trip.active)
    let answered (status : Status) (data : List Byte) (v : State) :=
      exec (.tripRelease h args) s = .next (v.replied h 0x31 args { status, data })
    (s.tripLatch = .clear → answered .ok [] u) ∧
    (s.tripLatch = .set → holding = [] → answered .ok [] { u with tripLatch := .clear }) ∧
    (∀ r rest, s.tripLatch = .set → holding = r :: rest →
      answered .stillActive (be16 r.config.addr ++ [BitVec.ofNat 8 holding.length]) u)

/-- The capture requests by the state of the record: CAPTURE_ARM (R148), CAPTURE_TRIGGER (R150), READ_CAPTURE (R151),
CAPTURE_ABORT (R152, R155) and CAPTURE_RELEASE (R153). What an abort or a release keeps is log entry 18. That an abort's notice is
offered before the response is placed is log entry 26. That a broadcast is passed on after the agent has taken it is log entry
14. -/
def Obligations.CaptureRequested : Prop :=
  ∀ (h : ReqHeader) (args : List Byte) (s : State),
    let u := s.taken h
    let c := s.capture
    let held := BitVec.ofNat 16 c.buffer.length
    let idle : Capture := { c with state := .idle, channel := none, triggerIndex := none, triggerTime := none, buffer := [] }
    let answered (i : Instr) (code : Byte) (status : Status) (data : List Byte) (v : State) :=
      exec i s = .next (v.replied h code args { status, data })
    (s.runs .captureArm h args →
      let addr := halfAt args 0
      let pre := (halfAt args 2).toNat
      let post := (halfAt args 4).toNat
      let wrong := 511 < pre ∨ post = 0 ∨ 512 < post ∨ 512 < pre + post ∨ 1 < (byteAt args 6).toNat
      let arm := answered (.captureArm h args) 0x38
      (wrong → arm .badRequest [] u) ∧
      (¬ wrong → c.state ≠ .idle → arm .captureState [c.state.code] u) ∧
      (¬ wrong → c.state = .idle → (∀ r, rowAt s.rows addr = some r → r.config.policy = .block) → arm .notFound [] u) ∧
      (∀ r, ¬ wrong → c.state = .idle → rowAt s.rows addr = some r → r.config.policy ≠ .block →
        arm .ok [] { u with capture :=
          { state := .armed, channel := some addr, preCount := pre, postCount := post,
            trigger := if byteAt args 6 = 0 then .onRaise else .manual,
            triggerIndex := none, triggerTime := none, buffer := [] } })) ∧
    (s.runs .captureTrigger h args →
      (c.state = .armed →
        answered (.captureTrigger h args) 0x39 .ok (be16 held)
          { u with capture :=
            { c with state := .triggered, triggerIndex := some c.buffer.length, triggerTime := some s.now } }) ∧
      (c.state ≠ .armed → answered (.captureTrigger h args) 0x39 .captureState [c.state.code] u)) ∧
    (s.runs .readCapture h args →
      let offset := (halfAt args 0).toNat
      let count := (byteAt args 2).toNat
      let read := answered (.readCapture h args) 0x08
      (c.state ≠ .full → read .captureState [c.state.code] u) ∧
      (c.state = .full → count = 0 ∨ 7 < count ∨ c.buffer.length < offset + count → read .badRequest [] u) ∧
      (∀ index, c.state = .full → c.triggerIndex = some index → 1 ≤ count → count ≤ 7 → offset + count ≤ c.buffer.length →
        read .ok (be16 (BitVec.ofNat 16 index) ++ ((c.buffer.drop offset).take count).flatMap elementImage) u)) ∧
    (s.runs .captureAbort h args →
      let abort := answered (.captureAbort h args) 0x3A
      (∀ addr, c.state = .armed ∨ c.state = .triggered → c.channel = some addr →
        abort .ok (be16 held)
          (State.offerNotice { kind := .captureAborted, addr, detail := held, time := s.now } { u with capture := idle })) ∧
      (c.state = .full → abort .ok (be16 held) { u with capture := idle }) ∧
      (c.state = .idle → abort .ok [0, 0] u)) ∧
    (s.runs .captureRelease h args →
      (c.state = .full → answered (.captureRelease h args) 0x3B .ok [] { u with capture := idle }) ∧
      (c.state ≠ .full → answered (.captureRelease h args) 0x3B .captureState [c.state.code] u))

/-- Capture elements by the state of the record (R149, R155) and raise notices (R98, R150). -/
def Obligations.CaptureFilled : Prop :=
  ∀ (addr : ChannelAddr) (e : Element) (time : Time) (s : State),
    let c := s.capture
    let kept (buffer : List Element) : State := { s with capture := { c with buffer } }
    (c.channel ≠ some addr ∨ c.state = .idle ∨ c.state = .full → s.takeElement addr e = s) ∧
    (c.channel = some addr → c.state = .armed → c.preCount = 0 → s.takeElement addr e = s) ∧
    (c.channel = some addr → c.state = .armed → 0 < c.preCount → c.buffer.length < c.preCount →
      s.takeElement addr e = kept (c.buffer ++ [e])) ∧
    (c.channel = some addr → c.state = .armed → 0 < c.preCount → c.buffer.length = c.preCount →
      s.takeElement addr e = kept (c.buffer.tail ++ [e])) ∧
    (∀ index, c.channel = some addr → c.state = .triggered → c.triggerIndex = some index →
      c.buffer.length + 1 ≠ index + c.postCount → s.takeElement addr e = kept (c.buffer ++ [e])) ∧
    (∀ index start, c.channel = some addr → c.state = .triggered → c.triggerIndex = some index → c.triggerTime = some start →
      c.buffer.length + 1 = index + c.postCount →
      s.takeElement addr e =
        State.offerNotice
          { kind := .captureDone, addr, detail := BitVec.ofNat 16 (index + c.postCount), time := start }
          { s with capture := { c with state := .full, buffer := c.buffer ++ [e] } }) ∧
    (c.state = .armed → c.trigger = .onRaise → c.channel = some addr →
      s.takeRaiseNotice addr time =
        { s with capture :=
          { c with state := .triggered, triggerIndex := some c.buffer.length, triggerTime := some time } }) ∧
    (c.state ≠ .armed ∨ c.trigger ≠ .onRaise ∨ c.channel ≠ some addr → s.takeRaiseNotice addr time = s)

/-- RESET_RUNTIME and RESET_TABLES (R145, R188): every block takes its values for the scope, the node address, the time, the
counters, the episode counter and the receivers stay, and the response is placed in the emptied queue. Any other scope is
BAD_REQUEST. The scope is the argument byte (log entry 7). That a broadcast is passed on after the agent has taken it is log
entry 14. -/
def Obligations.ManagementReset : Prop :=
  ∀ (h : ReqHeader) (args : List Byte) (s : State), s.runs .reset h args →
    let u := s.taken h
    let cleared (rows : List Row) (classes : List ClassEntry) : State :=
      { u with
        rows, classes, tripLatch := .clear, alarms := [],
        overflow := { lostCount := 0, state := .clear, firstLost := none, lastChange := 0, reportOwed := false },
        enrol := [], session := none, staging := [], replay := none,
        capture := { state := .idle, channel := none, preCount := 0, postCount := 1, trigger := .onRaise,
                     triggerIndex := none, triggerTime := none, buffer := [] },
        forwardQ := [], reportQ := [], noticeQ := [], responseQ := [], commandQ := [], guardCount := 0,
        lostNotices := 0, northTx := none, southTx := .idle }
    let ok : Answer := { status := .ok, data := [] }
    let response := responseFrame s.node h.source { id := h.id, code := 0x3F, status := .ok, data := [] }
    (byteAt args 0 = 0x01 →
      let fresh := s.rows.map (fun r => { config := r.config, rt := freshRecord r.config s.now : Row })
      exec (.resetRuntime h args) s = .next ((cleared fresh s.classes).replied h 0x3F args ok) ∧
      (cleared fresh s.classes).answer h 0x3F ok = { cleared fresh s.classes with northTx := some response }) ∧
    (byteAt args 0 = 0x02 →
      exec (.resetTables h args) s = .next ((cleared [] []).replied h 0x3F args ok) ∧
      (cleared [] []).answer h 0x3F ok = { cleared [] [] with northTx := some response }) ∧
    (byteAt args 0 ≠ 0x01 → byteAt args 0 ≠ 0x02 →
      exec (.resetRuntime h args) s = .next (u.replied h 0x3F args { status := .badRequest, data := [] }) ∧
      exec (.resetTables h args) s = .next (u.replied h 0x3F args { status := .badRequest, data := [] }))

/-! ### Images read back -/

/-- A row image is read back as its row, its origin MANAGED, and a class image as its class, for every configuration whose
fields the image can hold: no bit of either layout is dropped (R135, R180, R181). -/
def Obligations.ImagesReadBack : Prop :=
  (∀ c : RowConfig, c.fitsImage →
    (rowImage c).length = 27 ∧ rowOfImage (rowImage c) = { c with origin := .managed } ∧
      (c.valid → rowFault (rowOfImage (rowImage c)) (byteAt (rowImage c) 5) = none)) ∧
  (∀ c : ClassEntry, templateOk c = true →
    (classImage c).length = 13 ∧ classOfImage (classImage c) = c ∧ classImageOk (classImage c) = true)

/-! ### Laws that every step keeps -/

/-- Every law holds right after reset. The node address there is log entry 9; no law reads it. -/
def Obligations.LawsHoldAtReset : Prop :=
  State.reset.SessionLaw ∧ State.reset.CaptureLaw ∧ State.reset.QueueLaw ∧ State.reset.TablesLaw ∧
    State.reset.EnrolLaw ∧ State.reset.RecordLaw ∧ State.reset.LatchLaw ∧ State.reset.AlarmLaw ∧ State.reset.NorthLaw ∧
    State.reset.SouthLaw ∧ State.reset.ConditionLaw

/-- Every step keeps the law of the session record (R128). -/
def Obligations.SessionLawKept : Prop := ∀ s t : State, s.SessionLaw → step s = .next t → t.SessionLaw

/-- Every step keeps the law of the capture record (R147). -/
def Obligations.CaptureLawKept : Prop := ∀ s t : State, s.CaptureLaw → step s = .next t → t.CaptureLaw

/-- Every step keeps the queues within their capacities and the guard count within 8 (R158 to R165). -/
def Obligations.QueueLawKept : Prop := ∀ s t : State, s.QueueLaw → step s = .next t → t.QueueLaw

/-- Every step keeps the law of the tables (R1, R10, R11, R12, R105, R118, R135). -/
def Obligations.TablesLawKept : Prop := ∀ s t : State, s.TablesLaw → step s = .next t → t.TablesLaw

/-- Every step keeps the law of the Enrolment List's entries (R106, R107, R14). -/
def Obligations.EnrolLawKept : Prop :=
  ∀ s t : State, s.TablesLaw → s.EnrolLaw → step s = .next t → t.EnrolLaw

/-- Every step keeps the runtime records within their ranges (Table 1-6, R72). -/
def Obligations.RecordLawKept : Prop :=
  ∀ s t : State, s.TablesLaw → s.RecordLaw → step s = .next t → t.RecordLaw

/-- Every step keeps the law of the Trip Latch (R68). -/
def Obligations.LatchLawKept : Prop :=
  ∀ s t : State, s.TablesLaw → s.LatchLaw → step s = .next t → t.LatchLaw

/-- Every step keeps the law of the Alarm Table and its references, and that of the North Arbiter (R80, R91, R159, R162). -/
def Obligations.AlarmLawKept : Prop :=
  ∀ s t : State, s.AlarmLaw → s.NorthLaw → step s = .next t → t.AlarmLaw ∧ t.NorthLaw

/-- Every step keeps the law of the South Arbiter (R166). -/
def Obligations.SouthLawKept : Prop := ∀ s t : State, s.SouthLaw → step s = .next t → t.SouthLaw

/-- Every step keeps the law between the Alarm Table and the runtime records, so that a raise never finds an entry in ACTIVE_UNACK
or ACTIVE_ACK (R80, R81, R85). -/
def Obligations.ConditionLawKept : Prop :=
  ∀ s t : State, s.TablesLaw → s.RecordLaw → s.AlarmLaw → s.NorthLaw → s.ConditionLaw → step s = .next t → t.ConditionLaw
end

