-- ==== Sys2Proof/Laws/Check.lean ====
section
/-! SUPPORT. The Check: its register is linear, so that a changed byte changes the Check. -/

namespace Sys2Proof.Machine

open Sys2Proof

/-- A 16-bit field read and written again gives its two bytes (R178). -/
theorem be16_halfAt (bs : List Byte) (i : Nat) : be16 (halfAt bs i) = [byteAt bs i, byteAt bs (i + 1)] := by
  unfold be16 halfAt
  generalize byteAt bs i = a
  generalize byteAt bs (i + 1) = b
  congr 1
  · ext k hk
    rw [BitVec.getElem_extractLsb', BitVec.getLsbD_append, if_neg (by omega), Nat.add_sub_cancel_left,
      BitVec.getLsbD_eq_getElem hk]
  · congr 1
    ext k hk
    rw [BitVec.getElem_extractLsb', BitVec.getLsbD_append, if_pos (by omega), Nat.zero_add, BitVec.getLsbD_eq_getElem hk]

theorem eq_of_shiftLeft_one (x y : BitVec 16) (h1 : x <<< 1 = y <<< 1) (h2 : x.msb = y.msb) : x = y := by
  ext i hi
  by_cases h15 : i = 15
  · subst h15; simpa [BitVec.msb_eq_getLsbD_last] using h2
  · have := congrArg (fun z : BitVec 16 => z.getLsbD (i + 1)) h1
    have hlt : i + 1 < 16 := by omega
    simpa [hlt, BitVec.getLsbD_eq_getElem hi] using this

theorem crcBit_linear (r s : BitVec 16) (x y : Bool) :
    crcBit (r ^^^ s) (x ^^ y) = crcBit r x ^^^ crcBit s y := by
  unfold crcBit
  rw [BitVec.msb_xor, BitVec.shiftLeft_xor_distrib]
  cases r.msb <;> cases s.msb <;> cases x <;> cases y <;> simp [BitVec.xor_assoc] <;>
    rw [BitVec.xor_comm (s <<< 1)]

/-- The Check's register is linear in the register and the byte (R170). -/
theorem crcByte_linear (r s : BitVec 16) (a b : Byte) :
    crcByte (r ^^^ s) (a ^^^ b) = crcByte r a ^^^ crcByte s b := by
  unfold crcByte
  simp only [List.foldl, BitVec.getLsbD_xor, crcBit_linear]

theorem crcBit_zero {r : BitVec 16} (h : crcBit r false = 0) : r = 0 := by
  unfold crcBit at h
  by_cases hm : r.msb = true
  · simp [hm] at h
    have := congrArg (fun z : BitVec 16 => z.getLsbD 0) h
    simp at this
  · simp [hm] at h
    exact eq_of_shiftLeft_one r 0 (by simpa using h) (by simpa using hm)

theorem crcByte_zero {r : BitVec 16} (h : crcByte r 0 = 0) : r = 0 := by
  unfold crcByte at h
  simp only [List.foldl] at h
  exact crcBit_zero (crcBit_zero (crcBit_zero (crcBit_zero (crcBit_zero (crcBit_zero (crcBit_zero (crcBit_zero h)))))))

theorem eq_of_xor_eq_zero {w} {a b : BitVec w} (h : a ^^^ b = 0) : a = b := by
  have := congrArg (· ^^^ b) h
  simpa [BitVec.xor_assoc] using this

theorem crcByte_inj {r r' : BitVec 16} {b : Byte} (h : crcByte r b = crcByte r' b) : r = r' := by
  apply eq_of_xor_eq_zero
  apply crcByte_zero
  have := crcByte_linear r r' b b
  rw [h] at this
  simpa using this

theorem crcByte_foldl_inj (bs : List Byte) {r r' : BitVec 16} (h : bs.foldl crcByte r = bs.foldl crcByte r') : r = r' := by
  induction bs generalizing r r' with
  | nil => exact h
  | cons b bs ih => exact crcByte_inj (ih h)

theorem crcByte_of_byte_zero : ∀ b : Byte, crcByte 0 b = 0 → b = 0 := by decide +kernel

theorem crcByte_byte_inj (r : BitVec 16) {b b' : Byte} (h : crcByte r b = crcByte r b') : b = b' := by
  apply eq_of_xor_eq_zero
  apply crcByte_of_byte_zero
  have := crcByte_linear r r b b'
  rw [h] at this
  simpa using this

/-- The Check tells two lists of bytes that differ in one byte apart (R170). -/
theorem crc16_set_ne {bs : List Byte} {i : Nat} {b : Byte} (hi : i < bs.length) (hb : b ≠ bs[i]) :
    crc16 (bs.set i b) ≠ crc16 bs := by
  intro h
  unfold crc16 at h
  rw [List.set_eq_take_append_cons_drop, if_pos hi] at h
  have : bs = bs.take i ++ bs[i] :: bs.drop (i + 1) := by simp
  conv at h => rhs; rw [this]
  rw [List.foldl_append, List.foldl_append] at h
  simp only [List.foldl_cons] at h
  exact hb (crcByte_byte_inj _ (crcByte_foldl_inj _ h))

end Sys2Proof.Machine
end

