-- ==== Sys2Proof/Laws/Frame.lean ====
section
/-! SUPPORT. What the shared operations leave unchanged: each writes only a group of fields, said once by a mask over the group,
and then one lemma for each operation and field outside it. -/

namespace Sys2Proof.Machine

open Sys2Proof

/-- The state with the egress side blanked: the North queues and their counts, the transmitter, and the alarm content that a
pick may change. -/
def State.maskNorth (s : State) : State :=
  { s with northTx := none, forwardQ := [], reportQ := [], noticeQ := [], responseQ := [], guardCount := 0,
           lostNotices := 0, alarms := [], overflow := OverflowRecord.initial }

/-- The state with the egress side and the part counters blanked. -/
def State.maskOffer (s : State) : State := { s.maskNorth with partCounters := PartCounters.initial }

/-- The state with the South transmitter, the Command Queue and the part counters blanked. -/
def State.maskSouth (s : State) : State :=
  { s with southTx := .idle, commandQ := [], partCounters := PartCounters.initial }

/-- The state with the egress side, the part counters and the capture blanked. -/
def State.maskCapture (s : State) : State := { s.maskOffer with capture := Capture.initial }

/-- The state with the egress side, the episode counter and the capture blanked. -/
def State.maskRaise (s : State) : State := { s.maskNorth with episode := 1, capture := Capture.initial }

theorem State.pickForward_outside (s : State) : s.pickForward.maskNorth = s.maskNorth := by
  unfold State.pickForward; split <;> rfl

theorem State.pickNotice_outside (s : State) : s.pickNotice.maskNorth = s.maskNorth := by
  unfold State.pickNotice; split
  · exact s.pickForward_outside
  · rfl

theorem State.takeReport_outside (r : Reference) (s : State) : (s.takeReport r).maskNorth = s.maskNorth := by
  cases r with
  | overflow => rfl
  | entry addr kind => simp only [State.takeReport, State.takeEntryReport]; split <;> rfl

theorem State.pickReport_outside (s : State) : s.pickReport.maskNorth = s.maskNorth := by
  unfold State.pickReport; split
  · exact s.pickNotice_outside
  · exact State.takeReport_outside _ _

theorem State.pickResponse_outside (s : State) : s.pickResponse.maskNorth = s.maskNorth := by
  unfold State.pickResponse; split
  · exact s.pickReport_outside
  · rfl

/-- A North pick changes nothing outside the egress side (R162). -/
theorem State.pickNorth_outside (s : State) : s.pickNorth.maskNorth = s.maskNorth := by
  unfold State.pickNorth; split
  · exact s.pickForward_outside
  · exact s.pickResponse_outside

theorem State.northJoined_outside (s : State) : s.northJoined.maskNorth = s.maskNorth := by
  unfold State.northJoined; split
  · exact s.pickNorth_outside
  · rfl

theorem State.placeReference_outside (r : Reference) (s : State) : (s.placeReference r).maskNorth = s.maskNorth := by
  unfold State.placeReference; split
  · rfl
  · exact State.northJoined_outside _

theorem State.placeResponse_outside (dest : NodeAddr) (r : Response) (s : State) :
    (s.placeResponse dest r).maskNorth = s.maskNorth := State.northJoined_outside _

theorem State.changeAlarm_outside (addr : ChannelAddr) (kind : AlarmKind) (change : AlarmEntry → AlarmEntry) (s : State) :
    (s.changeAlarm addr kind change).maskNorth = s.maskNorth := State.placeReference_outside _ _

/-- A mask that an operation leaves alone is left alone by a list of them. -/
theorem State.foldl_outside {α β : Type} (mask : State → β) (op : State → α → State)
    (h : ∀ s a, mask (op s a) = mask s) (xs : List α) (s : State) : mask (xs.foldl op s) = mask s := by
  induction xs generalizing s with
  | nil => rfl
  | cons x xs ih => exact (ih _).trans (h s x)

theorem State.retire_outside (addr : ChannelAddr) (s : State) : (s.retire addr).maskNorth = s.maskNorth :=
  State.foldl_outside State.maskNorth _ (fun _ _ => State.changeAlarm_outside _ _ _ _) _ _

theorem State.northJoined_offer (s : State) : s.northJoined.maskOffer = s.maskOffer :=
  congrArg (fun t : State => { t with partCounters := PartCounters.initial }) s.northJoined_outside

/-- An offer to the Forward Queue changes nothing outside the egress side and the part counters (R158). -/
theorem State.offerForward_outside (f : Frame) (s : State) : (s.offerForward f).maskOffer = s.maskOffer := by
  unfold State.offerForward; split
  · exact State.northJoined_offer _
  · rfl

/-- An offer of a notice changes nothing outside the egress side and the part counters (R160). -/
theorem State.offerNotice_outside (n : Notice) (s : State) : (s.offerNotice n).maskOffer = s.maskOffer := by
  unfold State.offerNotice; split
  · exact State.northJoined_offer _
  · rfl

theorem State.pickSouth_outside (s : State) : s.pickSouth.maskSouth = s.maskSouth := by
  unfold State.pickSouth; split
  · rfl
  · split <;> rfl

/-- What follows a joining on the South side changes nothing outside it (R166). -/
theorem State.southJoined_outside (s : State) : s.southJoined.maskSouth = s.maskSouth := by
  unfold State.southJoined; split
  · exact s.pickSouth_outside
  · rfl

theorem State.offerCommand_outside (f : Frame) (s : State) : (s.offerCommand f).maskSouth = s.maskSouth := by
  unfold State.offerCommand; split
  · exact State.southJoined_outside _
  · rfl

theorem State.offerNotice_capture_outside (n : Notice) (s : State) : (s.offerNotice n).maskCapture = s.maskCapture :=
  congrArg (fun t : State => { t with capture := Capture.initial }) (State.offerNotice_outside n s)

/-- A capture element changes nothing outside the capture, the egress side and the part counters (R149). -/
theorem State.takeElement_outside (addr : ChannelAddr) (e : Element) (s : State) :
    (s.takeElement addr e).maskCapture = s.maskCapture := by
  unfold State.takeElement
  split
  · split
    · rfl
    · rfl
    · rfl
    · dsimp only
      split
      · exact State.offerNotice_capture_outside _ _
      · rfl
  · rfl

theorem State.abortCapture_outside (s : State) : s.abortCapture.maskCapture = s.maskCapture :=
  State.offerNotice_capture_outside _ _

theorem State.captureRowDeleted_outside (addr : ChannelAddr) (s : State) :
    (s.captureRowDeleted addr).maskCapture = s.maskCapture := by
  unfold State.captureRowDeleted; split
  · exact s.abortCapture_outside
  · rfl

theorem State.placeReference_raise (r : Reference) (s : State) : (s.placeReference r).maskRaise = s.maskRaise :=
  congrArg (fun t : State => { t with episode := 1, capture := Capture.initial }) (State.placeReference_outside r s)

theorem State.raiseEntry_outside (addr : ChannelAddr) (kind : AlarmKind) (time : Time) (v : Value) (s : State) :
    (s.raiseEntry addr kind time v).maskRaise = s.maskRaise := by
  unfold State.raiseEntry
  split
  · split <;> exact State.placeReference_raise _ _
  · split
    · exact State.placeReference_raise _ _
    · exact State.placeReference_raise _ _
    · rfl
    · rfl

theorem State.takeRaiseNotice_outside (addr : ChannelAddr) (time : Time) (s : State) :
    (s.takeRaiseNotice addr time).maskRaise = s.maskRaise := by
  unfold State.takeRaiseNotice; split <;> rfl

/-- A raise changes nothing outside the egress side, the episode counter and the capture (R84, R85, R94, R98). -/
theorem State.takeRaise_outside (addr : ChannelAddr) (kind : AlarmKind) (time : Time) (v : Value) (s : State) :
    (s.takeRaise addr kind time v).maskRaise = s.maskRaise :=
  (State.takeRaiseNotice_outside _ _ _).trans (State.raiseEntry_outside _ _ _ _ _)

theorem State.takeClear_outside (addr : ChannelAddr) (kind : AlarmKind) (time : Time) (s : State) :
    (s.takeClear addr kind time).maskRaise = s.maskRaise := by
  unfold State.takeClear
  split
  · rfl
  · split
    · exact State.placeReference_raise _ _
    · exact State.placeReference_raise _ _
    · rfl
    · rfl

theorem State.takeAlarmEvent_outside (s : State) (e : AlarmEvent) : (s.takeAlarmEvent e).maskRaise = s.maskRaise := by
  cases e
  · exact State.takeRaise_outside _ _ _ _ _
  · exact State.takeClear_outside _ _ _ _

theorem State.takeAlarmEvents_outside (es : List AlarmEvent) (s : State) :
    (s.takeAlarmEvents es).maskRaise = s.maskRaise :=
  State.foldl_outside State.maskRaise _ State.takeAlarmEvent_outside _ _

/-! ### Fields outside maskNorth -/

theorem State.of_maskNorth_pending {s t : State} (h : t.maskNorth = s.maskNorth) : t.pending = s.pending :=
  (congrArg State.pending h :)
theorem State.of_maskNorth_phase {s t : State} (h : t.maskNorth = s.maskNorth) : t.phase = s.phase :=
  (congrArg State.phase h :)
theorem State.of_maskNorth_node {s t : State} (h : t.maskNorth = s.maskNorth) : t.node = s.node :=
  (congrArg State.node h :)
theorem State.of_maskNorth_now {s t : State} (h : t.maskNorth = s.maskNorth) : t.now = s.now :=
  (congrArg State.now h :)
theorem State.of_maskNorth_rows {s t : State} (h : t.maskNorth = s.maskNorth) : t.rows = s.rows :=
  (congrArg State.rows h :)
theorem State.of_maskNorth_classes {s t : State} (h : t.maskNorth = s.maskNorth) : t.classes = s.classes :=
  (congrArg State.classes h :)
theorem State.of_maskNorth_settings {s t : State} (h : t.maskNorth = s.maskNorth) : t.settings = s.settings :=
  (congrArg State.settings h :)
theorem State.of_maskNorth_tripLatch {s t : State} (h : t.maskNorth = s.maskNorth) : t.tripLatch = s.tripLatch :=
  (congrArg State.tripLatch h :)
theorem State.of_maskNorth_episode {s t : State} (h : t.maskNorth = s.maskNorth) : t.episode = s.episode :=
  (congrArg State.episode h :)
theorem State.of_maskNorth_enrol {s t : State} (h : t.maskNorth = s.maskNorth) : t.enrol = s.enrol :=
  (congrArg State.enrol h :)
theorem State.of_maskNorth_session {s t : State} (h : t.maskNorth = s.maskNorth) : t.session = s.session :=
  (congrArg State.session h :)
theorem State.of_maskNorth_staging {s t : State} (h : t.maskNorth = s.maskNorth) : t.staging = s.staging :=
  (congrArg State.staging h :)
theorem State.of_maskNorth_replay {s t : State} (h : t.maskNorth = s.maskNorth) : t.replay = s.replay :=
  (congrArg State.replay h :)
theorem State.of_maskNorth_capture {s t : State} (h : t.maskNorth = s.maskNorth) : t.capture = s.capture :=
  (congrArg State.capture h :)
theorem State.of_maskNorth_commandQ {s t : State} (h : t.maskNorth = s.maskNorth) : t.commandQ = s.commandQ :=
  (congrArg State.commandQ h :)
theorem State.of_maskNorth_southTx {s t : State} (h : t.maskNorth = s.maskNorth) : t.southTx = s.southTx :=
  (congrArg State.southTx h :)
theorem State.of_maskNorth_northRx {s t : State} (h : t.maskNorth = s.maskNorth) : t.northRx = s.northRx :=
  (congrArg State.northRx h :)
theorem State.of_maskNorth_southRx {s t : State} (h : t.maskNorth = s.maskNorth) : t.southRx = s.southRx :=
  (congrArg State.southRx h :)
theorem State.of_maskNorth_northCounters {s t : State} (h : t.maskNorth = s.maskNorth) : t.northCounters = s.northCounters :=
  (congrArg State.northCounters h :)
theorem State.of_maskNorth_southCounters {s t : State} (h : t.maskNorth = s.maskNorth) : t.southCounters = s.southCounters :=
  (congrArg State.southCounters h :)
theorem State.of_maskNorth_partCounters {s t : State} (h : t.maskNorth = s.maskNorth) : t.partCounters = s.partCounters :=
  (congrArg State.partCounters h :)
theorem State.of_maskNorth_freeReads {s t : State} (h : t.maskNorth = s.maskNorth) : t.freeReads = s.freeReads :=
  (congrArg State.freeReads h :)

@[simp] theorem State.northJoined_pending (s : State) : (State.northJoined s).pending = s.pending :=
  State.of_maskNorth_pending (State.northJoined_outside s)
@[simp] theorem State.northJoined_phase (s : State) : (State.northJoined s).phase = s.phase :=
  State.of_maskNorth_phase (State.northJoined_outside s)
@[simp] theorem State.northJoined_node (s : State) : (State.northJoined s).node = s.node :=
  State.of_maskNorth_node (State.northJoined_outside s)
@[simp] theorem State.northJoined_now (s : State) : (State.northJoined s).now = s.now :=
  State.of_maskNorth_now (State.northJoined_outside s)
@[simp] theorem State.northJoined_rows (s : State) : (State.northJoined s).rows = s.rows :=
  State.of_maskNorth_rows (State.northJoined_outside s)
@[simp] theorem State.northJoined_classes (s : State) : (State.northJoined s).classes = s.classes :=
  State.of_maskNorth_classes (State.northJoined_outside s)
@[simp] theorem State.northJoined_settings (s : State) : (State.northJoined s).settings = s.settings :=
  State.of_maskNorth_settings (State.northJoined_outside s)
@[simp] theorem State.northJoined_tripLatch (s : State) : (State.northJoined s).tripLatch = s.tripLatch :=
  State.of_maskNorth_tripLatch (State.northJoined_outside s)
@[simp] theorem State.northJoined_episode (s : State) : (State.northJoined s).episode = s.episode :=
  State.of_maskNorth_episode (State.northJoined_outside s)
@[simp] theorem State.northJoined_enrol (s : State) : (State.northJoined s).enrol = s.enrol :=
  State.of_maskNorth_enrol (State.northJoined_outside s)
@[simp] theorem State.northJoined_session (s : State) : (State.northJoined s).session = s.session :=
  State.of_maskNorth_session (State.northJoined_outside s)
@[simp] theorem State.northJoined_staging (s : State) : (State.northJoined s).staging = s.staging :=
  State.of_maskNorth_staging (State.northJoined_outside s)
@[simp] theorem State.northJoined_replay (s : State) : (State.northJoined s).replay = s.replay :=
  State.of_maskNorth_replay (State.northJoined_outside s)
@[simp] theorem State.northJoined_capture (s : State) : (State.northJoined s).capture = s.capture :=
  State.of_maskNorth_capture (State.northJoined_outside s)
@[simp] theorem State.northJoined_commandQ (s : State) : (State.northJoined s).commandQ = s.commandQ :=
  State.of_maskNorth_commandQ (State.northJoined_outside s)
@[simp] theorem State.northJoined_southTx (s : State) : (State.northJoined s).southTx = s.southTx :=
  State.of_maskNorth_southTx (State.northJoined_outside s)
@[simp] theorem State.northJoined_northRx (s : State) : (State.northJoined s).northRx = s.northRx :=
  State.of_maskNorth_northRx (State.northJoined_outside s)
@[simp] theorem State.northJoined_southRx (s : State) : (State.northJoined s).southRx = s.southRx :=
  State.of_maskNorth_southRx (State.northJoined_outside s)
@[simp] theorem State.northJoined_northCounters (s : State) : (State.northJoined s).northCounters = s.northCounters :=
  State.of_maskNorth_northCounters (State.northJoined_outside s)
@[simp] theorem State.northJoined_southCounters (s : State) : (State.northJoined s).southCounters = s.southCounters :=
  State.of_maskNorth_southCounters (State.northJoined_outside s)
@[simp] theorem State.northJoined_partCounters (s : State) : (State.northJoined s).partCounters = s.partCounters :=
  State.of_maskNorth_partCounters (State.northJoined_outside s)
@[simp] theorem State.northJoined_freeReads (s : State) : (State.northJoined s).freeReads = s.freeReads :=
  State.of_maskNorth_freeReads (State.northJoined_outside s)

@[simp] theorem State.placeReference_pending (r : Reference) (s : State) : (State.placeReference r s).pending = s.pending :=
  State.of_maskNorth_pending (State.placeReference_outside r s)
@[simp] theorem State.placeReference_phase (r : Reference) (s : State) : (State.placeReference r s).phase = s.phase :=
  State.of_maskNorth_phase (State.placeReference_outside r s)
@[simp] theorem State.placeReference_node (r : Reference) (s : State) : (State.placeReference r s).node = s.node :=
  State.of_maskNorth_node (State.placeReference_outside r s)
@[simp] theorem State.placeReference_now (r : Reference) (s : State) : (State.placeReference r s).now = s.now :=
  State.of_maskNorth_now (State.placeReference_outside r s)
@[simp] theorem State.placeReference_rows (r : Reference) (s : State) : (State.placeReference r s).rows = s.rows :=
  State.of_maskNorth_rows (State.placeReference_outside r s)
@[simp] theorem State.placeReference_classes (r : Reference) (s : State) : (State.placeReference r s).classes = s.classes :=
  State.of_maskNorth_classes (State.placeReference_outside r s)
@[simp] theorem State.placeReference_settings (r : Reference) (s : State) : (State.placeReference r s).settings = s.settings :=
  State.of_maskNorth_settings (State.placeReference_outside r s)
@[simp] theorem State.placeReference_tripLatch (r : Reference) (s : State) : (State.placeReference r s).tripLatch = s.tripLatch :=
  State.of_maskNorth_tripLatch (State.placeReference_outside r s)
@[simp] theorem State.placeReference_episode (r : Reference) (s : State) : (State.placeReference r s).episode = s.episode :=
  State.of_maskNorth_episode (State.placeReference_outside r s)
@[simp] theorem State.placeReference_enrol (r : Reference) (s : State) : (State.placeReference r s).enrol = s.enrol :=
  State.of_maskNorth_enrol (State.placeReference_outside r s)
@[simp] theorem State.placeReference_session (r : Reference) (s : State) : (State.placeReference r s).session = s.session :=
  State.of_maskNorth_session (State.placeReference_outside r s)
@[simp] theorem State.placeReference_staging (r : Reference) (s : State) : (State.placeReference r s).staging = s.staging :=
  State.of_maskNorth_staging (State.placeReference_outside r s)
@[simp] theorem State.placeReference_replay (r : Reference) (s : State) : (State.placeReference r s).replay = s.replay :=
  State.of_maskNorth_replay (State.placeReference_outside r s)
@[simp] theorem State.placeReference_capture (r : Reference) (s : State) : (State.placeReference r s).capture = s.capture :=
  State.of_maskNorth_capture (State.placeReference_outside r s)
@[simp] theorem State.placeReference_commandQ (r : Reference) (s : State) : (State.placeReference r s).commandQ = s.commandQ :=
  State.of_maskNorth_commandQ (State.placeReference_outside r s)
@[simp] theorem State.placeReference_southTx (r : Reference) (s : State) : (State.placeReference r s).southTx = s.southTx :=
  State.of_maskNorth_southTx (State.placeReference_outside r s)
@[simp] theorem State.placeReference_northRx (r : Reference) (s : State) : (State.placeReference r s).northRx = s.northRx :=
  State.of_maskNorth_northRx (State.placeReference_outside r s)
@[simp] theorem State.placeReference_southRx (r : Reference) (s : State) : (State.placeReference r s).southRx = s.southRx :=
  State.of_maskNorth_southRx (State.placeReference_outside r s)
@[simp] theorem State.placeReference_northCounters (r : Reference) (s : State) : (State.placeReference r s).northCounters = s.northCounters :=
  State.of_maskNorth_northCounters (State.placeReference_outside r s)
@[simp] theorem State.placeReference_southCounters (r : Reference) (s : State) : (State.placeReference r s).southCounters = s.southCounters :=
  State.of_maskNorth_southCounters (State.placeReference_outside r s)
@[simp] theorem State.placeReference_partCounters (r : Reference) (s : State) : (State.placeReference r s).partCounters = s.partCounters :=
  State.of_maskNorth_partCounters (State.placeReference_outside r s)
@[simp] theorem State.placeReference_freeReads (r : Reference) (s : State) : (State.placeReference r s).freeReads = s.freeReads :=
  State.of_maskNorth_freeReads (State.placeReference_outside r s)

@[simp] theorem State.placeResponse_pending (dest : NodeAddr) (r : Response) (s : State) : (State.placeResponse dest r s).pending = s.pending :=
  State.of_maskNorth_pending (State.placeResponse_outside dest r s)
@[simp] theorem State.placeResponse_phase (dest : NodeAddr) (r : Response) (s : State) : (State.placeResponse dest r s).phase = s.phase :=
  State.of_maskNorth_phase (State.placeResponse_outside dest r s)
@[simp] theorem State.placeResponse_node (dest : NodeAddr) (r : Response) (s : State) : (State.placeResponse dest r s).node = s.node :=
  State.of_maskNorth_node (State.placeResponse_outside dest r s)
@[simp] theorem State.placeResponse_now (dest : NodeAddr) (r : Response) (s : State) : (State.placeResponse dest r s).now = s.now :=
  State.of_maskNorth_now (State.placeResponse_outside dest r s)
@[simp] theorem State.placeResponse_rows (dest : NodeAddr) (r : Response) (s : State) : (State.placeResponse dest r s).rows = s.rows :=
  State.of_maskNorth_rows (State.placeResponse_outside dest r s)
@[simp] theorem State.placeResponse_classes (dest : NodeAddr) (r : Response) (s : State) : (State.placeResponse dest r s).classes = s.classes :=
  State.of_maskNorth_classes (State.placeResponse_outside dest r s)
@[simp] theorem State.placeResponse_settings (dest : NodeAddr) (r : Response) (s : State) : (State.placeResponse dest r s).settings = s.settings :=
  State.of_maskNorth_settings (State.placeResponse_outside dest r s)
@[simp] theorem State.placeResponse_tripLatch (dest : NodeAddr) (r : Response) (s : State) : (State.placeResponse dest r s).tripLatch = s.tripLatch :=
  State.of_maskNorth_tripLatch (State.placeResponse_outside dest r s)
@[simp] theorem State.placeResponse_episode (dest : NodeAddr) (r : Response) (s : State) : (State.placeResponse dest r s).episode = s.episode :=
  State.of_maskNorth_episode (State.placeResponse_outside dest r s)
@[simp] theorem State.placeResponse_enrol (dest : NodeAddr) (r : Response) (s : State) : (State.placeResponse dest r s).enrol = s.enrol :=
  State.of_maskNorth_enrol (State.placeResponse_outside dest r s)
@[simp] theorem State.placeResponse_session (dest : NodeAddr) (r : Response) (s : State) : (State.placeResponse dest r s).session = s.session :=
  State.of_maskNorth_session (State.placeResponse_outside dest r s)
@[simp] theorem State.placeResponse_staging (dest : NodeAddr) (r : Response) (s : State) : (State.placeResponse dest r s).staging = s.staging :=
  State.of_maskNorth_staging (State.placeResponse_outside dest r s)
@[simp] theorem State.placeResponse_replay (dest : NodeAddr) (r : Response) (s : State) : (State.placeResponse dest r s).replay = s.replay :=
  State.of_maskNorth_replay (State.placeResponse_outside dest r s)
@[simp] theorem State.placeResponse_capture (dest : NodeAddr) (r : Response) (s : State) : (State.placeResponse dest r s).capture = s.capture :=
  State.of_maskNorth_capture (State.placeResponse_outside dest r s)
@[simp] theorem State.placeResponse_commandQ (dest : NodeAddr) (r : Response) (s : State) : (State.placeResponse dest r s).commandQ = s.commandQ :=
  State.of_maskNorth_commandQ (State.placeResponse_outside dest r s)
@[simp] theorem State.placeResponse_southTx (dest : NodeAddr) (r : Response) (s : State) : (State.placeResponse dest r s).southTx = s.southTx :=
  State.of_maskNorth_southTx (State.placeResponse_outside dest r s)
@[simp] theorem State.placeResponse_northRx (dest : NodeAddr) (r : Response) (s : State) : (State.placeResponse dest r s).northRx = s.northRx :=
  State.of_maskNorth_northRx (State.placeResponse_outside dest r s)
@[simp] theorem State.placeResponse_southRx (dest : NodeAddr) (r : Response) (s : State) : (State.placeResponse dest r s).southRx = s.southRx :=
  State.of_maskNorth_southRx (State.placeResponse_outside dest r s)
@[simp] theorem State.placeResponse_northCounters (dest : NodeAddr) (r : Response) (s : State) : (State.placeResponse dest r s).northCounters = s.northCounters :=
  State.of_maskNorth_northCounters (State.placeResponse_outside dest r s)
@[simp] theorem State.placeResponse_southCounters (dest : NodeAddr) (r : Response) (s : State) : (State.placeResponse dest r s).southCounters = s.southCounters :=
  State.of_maskNorth_southCounters (State.placeResponse_outside dest r s)
@[simp] theorem State.placeResponse_partCounters (dest : NodeAddr) (r : Response) (s : State) : (State.placeResponse dest r s).partCounters = s.partCounters :=
  State.of_maskNorth_partCounters (State.placeResponse_outside dest r s)
@[simp] theorem State.placeResponse_freeReads (dest : NodeAddr) (r : Response) (s : State) : (State.placeResponse dest r s).freeReads = s.freeReads :=
  State.of_maskNorth_freeReads (State.placeResponse_outside dest r s)

@[simp] theorem State.changeAlarm_pending (addr : ChannelAddr) (kind : AlarmKind) (change : AlarmEntry → AlarmEntry) (s : State) : (State.changeAlarm addr kind change s).pending = s.pending :=
  State.of_maskNorth_pending (State.changeAlarm_outside addr kind change s)
@[simp] theorem State.changeAlarm_phase (addr : ChannelAddr) (kind : AlarmKind) (change : AlarmEntry → AlarmEntry) (s : State) : (State.changeAlarm addr kind change s).phase = s.phase :=
  State.of_maskNorth_phase (State.changeAlarm_outside addr kind change s)
@[simp] theorem State.changeAlarm_node (addr : ChannelAddr) (kind : AlarmKind) (change : AlarmEntry → AlarmEntry) (s : State) : (State.changeAlarm addr kind change s).node = s.node :=
  State.of_maskNorth_node (State.changeAlarm_outside addr kind change s)
@[simp] theorem State.changeAlarm_now (addr : ChannelAddr) (kind : AlarmKind) (change : AlarmEntry → AlarmEntry) (s : State) : (State.changeAlarm addr kind change s).now = s.now :=
  State.of_maskNorth_now (State.changeAlarm_outside addr kind change s)
@[simp] theorem State.changeAlarm_rows (addr : ChannelAddr) (kind : AlarmKind) (change : AlarmEntry → AlarmEntry) (s : State) : (State.changeAlarm addr kind change s).rows = s.rows :=
  State.of_maskNorth_rows (State.changeAlarm_outside addr kind change s)
@[simp] theorem State.changeAlarm_classes (addr : ChannelAddr) (kind : AlarmKind) (change : AlarmEntry → AlarmEntry) (s : State) : (State.changeAlarm addr kind change s).classes = s.classes :=
  State.of_maskNorth_classes (State.changeAlarm_outside addr kind change s)
@[simp] theorem State.changeAlarm_settings (addr : ChannelAddr) (kind : AlarmKind) (change : AlarmEntry → AlarmEntry) (s : State) : (State.changeAlarm addr kind change s).settings = s.settings :=
  State.of_maskNorth_settings (State.changeAlarm_outside addr kind change s)
@[simp] theorem State.changeAlarm_tripLatch (addr : ChannelAddr) (kind : AlarmKind) (change : AlarmEntry → AlarmEntry) (s : State) : (State.changeAlarm addr kind change s).tripLatch = s.tripLatch :=
  State.of_maskNorth_tripLatch (State.changeAlarm_outside addr kind change s)
@[simp] theorem State.changeAlarm_episode (addr : ChannelAddr) (kind : AlarmKind) (change : AlarmEntry → AlarmEntry) (s : State) : (State.changeAlarm addr kind change s).episode = s.episode :=
  State.of_maskNorth_episode (State.changeAlarm_outside addr kind change s)
@[simp] theorem State.changeAlarm_enrol (addr : ChannelAddr) (kind : AlarmKind) (change : AlarmEntry → AlarmEntry) (s : State) : (State.changeAlarm addr kind change s).enrol = s.enrol :=
  State.of_maskNorth_enrol (State.changeAlarm_outside addr kind change s)
@[simp] theorem State.changeAlarm_session (addr : ChannelAddr) (kind : AlarmKind) (change : AlarmEntry → AlarmEntry) (s : State) : (State.changeAlarm addr kind change s).session = s.session :=
  State.of_maskNorth_session (State.changeAlarm_outside addr kind change s)
@[simp] theorem State.changeAlarm_staging (addr : ChannelAddr) (kind : AlarmKind) (change : AlarmEntry → AlarmEntry) (s : State) : (State.changeAlarm addr kind change s).staging = s.staging :=
  State.of_maskNorth_staging (State.changeAlarm_outside addr kind change s)
@[simp] theorem State.changeAlarm_replay (addr : ChannelAddr) (kind : AlarmKind) (change : AlarmEntry → AlarmEntry) (s : State) : (State.changeAlarm addr kind change s).replay = s.replay :=
  State.of_maskNorth_replay (State.changeAlarm_outside addr kind change s)
@[simp] theorem State.changeAlarm_capture (addr : ChannelAddr) (kind : AlarmKind) (change : AlarmEntry → AlarmEntry) (s : State) : (State.changeAlarm addr kind change s).capture = s.capture :=
  State.of_maskNorth_capture (State.changeAlarm_outside addr kind change s)
@[simp] theorem State.changeAlarm_commandQ (addr : ChannelAddr) (kind : AlarmKind) (change : AlarmEntry → AlarmEntry) (s : State) : (State.changeAlarm addr kind change s).commandQ = s.commandQ :=
  State.of_maskNorth_commandQ (State.changeAlarm_outside addr kind change s)
@[simp] theorem State.changeAlarm_southTx (addr : ChannelAddr) (kind : AlarmKind) (change : AlarmEntry → AlarmEntry) (s : State) : (State.changeAlarm addr kind change s).southTx = s.southTx :=
  State.of_maskNorth_southTx (State.changeAlarm_outside addr kind change s)
@[simp] theorem State.changeAlarm_northRx (addr : ChannelAddr) (kind : AlarmKind) (change : AlarmEntry → AlarmEntry) (s : State) : (State.changeAlarm addr kind change s).northRx = s.northRx :=
  State.of_maskNorth_northRx (State.changeAlarm_outside addr kind change s)
@[simp] theorem State.changeAlarm_southRx (addr : ChannelAddr) (kind : AlarmKind) (change : AlarmEntry → AlarmEntry) (s : State) : (State.changeAlarm addr kind change s).southRx = s.southRx :=
  State.of_maskNorth_southRx (State.changeAlarm_outside addr kind change s)
@[simp] theorem State.changeAlarm_northCounters (addr : ChannelAddr) (kind : AlarmKind) (change : AlarmEntry → AlarmEntry) (s : State) : (State.changeAlarm addr kind change s).northCounters = s.northCounters :=
  State.of_maskNorth_northCounters (State.changeAlarm_outside addr kind change s)
@[simp] theorem State.changeAlarm_southCounters (addr : ChannelAddr) (kind : AlarmKind) (change : AlarmEntry → AlarmEntry) (s : State) : (State.changeAlarm addr kind change s).southCounters = s.southCounters :=
  State.of_maskNorth_southCounters (State.changeAlarm_outside addr kind change s)
@[simp] theorem State.changeAlarm_partCounters (addr : ChannelAddr) (kind : AlarmKind) (change : AlarmEntry → AlarmEntry) (s : State) : (State.changeAlarm addr kind change s).partCounters = s.partCounters :=
  State.of_maskNorth_partCounters (State.changeAlarm_outside addr kind change s)
@[simp] theorem State.changeAlarm_freeReads (addr : ChannelAddr) (kind : AlarmKind) (change : AlarmEntry → AlarmEntry) (s : State) : (State.changeAlarm addr kind change s).freeReads = s.freeReads :=
  State.of_maskNorth_freeReads (State.changeAlarm_outside addr kind change s)

@[simp] theorem State.retire_pending (addr : ChannelAddr) (s : State) : (State.retire addr s).pending = s.pending :=
  State.of_maskNorth_pending (State.retire_outside addr s)
@[simp] theorem State.retire_phase (addr : ChannelAddr) (s : State) : (State.retire addr s).phase = s.phase :=
  State.of_maskNorth_phase (State.retire_outside addr s)
@[simp] theorem State.retire_node (addr : ChannelAddr) (s : State) : (State.retire addr s).node = s.node :=
  State.of_maskNorth_node (State.retire_outside addr s)
@[simp] theorem State.retire_now (addr : ChannelAddr) (s : State) : (State.retire addr s).now = s.now :=
  State.of_maskNorth_now (State.retire_outside addr s)
@[simp] theorem State.retire_rows (addr : ChannelAddr) (s : State) : (State.retire addr s).rows = s.rows :=
  State.of_maskNorth_rows (State.retire_outside addr s)
@[simp] theorem State.retire_classes (addr : ChannelAddr) (s : State) : (State.retire addr s).classes = s.classes :=
  State.of_maskNorth_classes (State.retire_outside addr s)
@[simp] theorem State.retire_settings (addr : ChannelAddr) (s : State) : (State.retire addr s).settings = s.settings :=
  State.of_maskNorth_settings (State.retire_outside addr s)
@[simp] theorem State.retire_tripLatch (addr : ChannelAddr) (s : State) : (State.retire addr s).tripLatch = s.tripLatch :=
  State.of_maskNorth_tripLatch (State.retire_outside addr s)
@[simp] theorem State.retire_episode (addr : ChannelAddr) (s : State) : (State.retire addr s).episode = s.episode :=
  State.of_maskNorth_episode (State.retire_outside addr s)
@[simp] theorem State.retire_enrol (addr : ChannelAddr) (s : State) : (State.retire addr s).enrol = s.enrol :=
  State.of_maskNorth_enrol (State.retire_outside addr s)
@[simp] theorem State.retire_session (addr : ChannelAddr) (s : State) : (State.retire addr s).session = s.session :=
  State.of_maskNorth_session (State.retire_outside addr s)
@[simp] theorem State.retire_staging (addr : ChannelAddr) (s : State) : (State.retire addr s).staging = s.staging :=
  State.of_maskNorth_staging (State.retire_outside addr s)
@[simp] theorem State.retire_replay (addr : ChannelAddr) (s : State) : (State.retire addr s).replay = s.replay :=
  State.of_maskNorth_replay (State.retire_outside addr s)
@[simp] theorem State.retire_capture (addr : ChannelAddr) (s : State) : (State.retire addr s).capture = s.capture :=
  State.of_maskNorth_capture (State.retire_outside addr s)
@[simp] theorem State.retire_commandQ (addr : ChannelAddr) (s : State) : (State.retire addr s).commandQ = s.commandQ :=
  State.of_maskNorth_commandQ (State.retire_outside addr s)
@[simp] theorem State.retire_southTx (addr : ChannelAddr) (s : State) : (State.retire addr s).southTx = s.southTx :=
  State.of_maskNorth_southTx (State.retire_outside addr s)
@[simp] theorem State.retire_northRx (addr : ChannelAddr) (s : State) : (State.retire addr s).northRx = s.northRx :=
  State.of_maskNorth_northRx (State.retire_outside addr s)
@[simp] theorem State.retire_southRx (addr : ChannelAddr) (s : State) : (State.retire addr s).southRx = s.southRx :=
  State.of_maskNorth_southRx (State.retire_outside addr s)
@[simp] theorem State.retire_northCounters (addr : ChannelAddr) (s : State) : (State.retire addr s).northCounters = s.northCounters :=
  State.of_maskNorth_northCounters (State.retire_outside addr s)
@[simp] theorem State.retire_southCounters (addr : ChannelAddr) (s : State) : (State.retire addr s).southCounters = s.southCounters :=
  State.of_maskNorth_southCounters (State.retire_outside addr s)
@[simp] theorem State.retire_partCounters (addr : ChannelAddr) (s : State) : (State.retire addr s).partCounters = s.partCounters :=
  State.of_maskNorth_partCounters (State.retire_outside addr s)
@[simp] theorem State.retire_freeReads (addr : ChannelAddr) (s : State) : (State.retire addr s).freeReads = s.freeReads :=
  State.of_maskNorth_freeReads (State.retire_outside addr s)

/-! ### Fields outside maskOffer -/

theorem State.of_maskOffer_pending {s t : State} (h : t.maskOffer = s.maskOffer) : t.pending = s.pending :=
  (congrArg State.pending h :)
theorem State.of_maskOffer_phase {s t : State} (h : t.maskOffer = s.maskOffer) : t.phase = s.phase :=
  (congrArg State.phase h :)
theorem State.of_maskOffer_node {s t : State} (h : t.maskOffer = s.maskOffer) : t.node = s.node :=
  (congrArg State.node h :)
theorem State.of_maskOffer_now {s t : State} (h : t.maskOffer = s.maskOffer) : t.now = s.now :=
  (congrArg State.now h :)
theorem State.of_maskOffer_rows {s t : State} (h : t.maskOffer = s.maskOffer) : t.rows = s.rows :=
  (congrArg State.rows h :)
theorem State.of_maskOffer_classes {s t : State} (h : t.maskOffer = s.maskOffer) : t.classes = s.classes :=
  (congrArg State.classes h :)
theorem State.of_maskOffer_settings {s t : State} (h : t.maskOffer = s.maskOffer) : t.settings = s.settings :=
  (congrArg State.settings h :)
theorem State.of_maskOffer_tripLatch {s t : State} (h : t.maskOffer = s.maskOffer) : t.tripLatch = s.tripLatch :=
  (congrArg State.tripLatch h :)
theorem State.of_maskOffer_episode {s t : State} (h : t.maskOffer = s.maskOffer) : t.episode = s.episode :=
  (congrArg State.episode h :)
theorem State.of_maskOffer_enrol {s t : State} (h : t.maskOffer = s.maskOffer) : t.enrol = s.enrol :=
  (congrArg State.enrol h :)
theorem State.of_maskOffer_session {s t : State} (h : t.maskOffer = s.maskOffer) : t.session = s.session :=
  (congrArg State.session h :)
theorem State.of_maskOffer_staging {s t : State} (h : t.maskOffer = s.maskOffer) : t.staging = s.staging :=
  (congrArg State.staging h :)
theorem State.of_maskOffer_replay {s t : State} (h : t.maskOffer = s.maskOffer) : t.replay = s.replay :=
  (congrArg State.replay h :)
theorem State.of_maskOffer_capture {s t : State} (h : t.maskOffer = s.maskOffer) : t.capture = s.capture :=
  (congrArg State.capture h :)
theorem State.of_maskOffer_commandQ {s t : State} (h : t.maskOffer = s.maskOffer) : t.commandQ = s.commandQ :=
  (congrArg State.commandQ h :)
theorem State.of_maskOffer_southTx {s t : State} (h : t.maskOffer = s.maskOffer) : t.southTx = s.southTx :=
  (congrArg State.southTx h :)
theorem State.of_maskOffer_northRx {s t : State} (h : t.maskOffer = s.maskOffer) : t.northRx = s.northRx :=
  (congrArg State.northRx h :)
theorem State.of_maskOffer_southRx {s t : State} (h : t.maskOffer = s.maskOffer) : t.southRx = s.southRx :=
  (congrArg State.southRx h :)
theorem State.of_maskOffer_northCounters {s t : State} (h : t.maskOffer = s.maskOffer) : t.northCounters = s.northCounters :=
  (congrArg State.northCounters h :)
theorem State.of_maskOffer_southCounters {s t : State} (h : t.maskOffer = s.maskOffer) : t.southCounters = s.southCounters :=
  (congrArg State.southCounters h :)
theorem State.of_maskOffer_freeReads {s t : State} (h : t.maskOffer = s.maskOffer) : t.freeReads = s.freeReads :=
  (congrArg State.freeReads h :)

@[simp] theorem State.offerForward_pending (f : Frame) (s : State) : (State.offerForward f s).pending = s.pending :=
  State.of_maskOffer_pending (State.offerForward_outside f s)
@[simp] theorem State.offerForward_phase (f : Frame) (s : State) : (State.offerForward f s).phase = s.phase :=
  State.of_maskOffer_phase (State.offerForward_outside f s)
@[simp] theorem State.offerForward_node (f : Frame) (s : State) : (State.offerForward f s).node = s.node :=
  State.of_maskOffer_node (State.offerForward_outside f s)
@[simp] theorem State.offerForward_now (f : Frame) (s : State) : (State.offerForward f s).now = s.now :=
  State.of_maskOffer_now (State.offerForward_outside f s)
@[simp] theorem State.offerForward_rows (f : Frame) (s : State) : (State.offerForward f s).rows = s.rows :=
  State.of_maskOffer_rows (State.offerForward_outside f s)
@[simp] theorem State.offerForward_classes (f : Frame) (s : State) : (State.offerForward f s).classes = s.classes :=
  State.of_maskOffer_classes (State.offerForward_outside f s)
@[simp] theorem State.offerForward_settings (f : Frame) (s : State) : (State.offerForward f s).settings = s.settings :=
  State.of_maskOffer_settings (State.offerForward_outside f s)
@[simp] theorem State.offerForward_tripLatch (f : Frame) (s : State) : (State.offerForward f s).tripLatch = s.tripLatch :=
  State.of_maskOffer_tripLatch (State.offerForward_outside f s)
@[simp] theorem State.offerForward_episode (f : Frame) (s : State) : (State.offerForward f s).episode = s.episode :=
  State.of_maskOffer_episode (State.offerForward_outside f s)
@[simp] theorem State.offerForward_enrol (f : Frame) (s : State) : (State.offerForward f s).enrol = s.enrol :=
  State.of_maskOffer_enrol (State.offerForward_outside f s)
@[simp] theorem State.offerForward_session (f : Frame) (s : State) : (State.offerForward f s).session = s.session :=
  State.of_maskOffer_session (State.offerForward_outside f s)
@[simp] theorem State.offerForward_staging (f : Frame) (s : State) : (State.offerForward f s).staging = s.staging :=
  State.of_maskOffer_staging (State.offerForward_outside f s)
@[simp] theorem State.offerForward_replay (f : Frame) (s : State) : (State.offerForward f s).replay = s.replay :=
  State.of_maskOffer_replay (State.offerForward_outside f s)
@[simp] theorem State.offerForward_capture (f : Frame) (s : State) : (State.offerForward f s).capture = s.capture :=
  State.of_maskOffer_capture (State.offerForward_outside f s)
@[simp] theorem State.offerForward_commandQ (f : Frame) (s : State) : (State.offerForward f s).commandQ = s.commandQ :=
  State.of_maskOffer_commandQ (State.offerForward_outside f s)
@[simp] theorem State.offerForward_southTx (f : Frame) (s : State) : (State.offerForward f s).southTx = s.southTx :=
  State.of_maskOffer_southTx (State.offerForward_outside f s)
@[simp] theorem State.offerForward_northRx (f : Frame) (s : State) : (State.offerForward f s).northRx = s.northRx :=
  State.of_maskOffer_northRx (State.offerForward_outside f s)
@[simp] theorem State.offerForward_southRx (f : Frame) (s : State) : (State.offerForward f s).southRx = s.southRx :=
  State.of_maskOffer_southRx (State.offerForward_outside f s)
@[simp] theorem State.offerForward_northCounters (f : Frame) (s : State) : (State.offerForward f s).northCounters = s.northCounters :=
  State.of_maskOffer_northCounters (State.offerForward_outside f s)
@[simp] theorem State.offerForward_southCounters (f : Frame) (s : State) : (State.offerForward f s).southCounters = s.southCounters :=
  State.of_maskOffer_southCounters (State.offerForward_outside f s)
@[simp] theorem State.offerForward_freeReads (f : Frame) (s : State) : (State.offerForward f s).freeReads = s.freeReads :=
  State.of_maskOffer_freeReads (State.offerForward_outside f s)

@[simp] theorem State.offerNotice_pending (n : Notice) (s : State) : (State.offerNotice n s).pending = s.pending :=
  State.of_maskOffer_pending (State.offerNotice_outside n s)
@[simp] theorem State.offerNotice_phase (n : Notice) (s : State) : (State.offerNotice n s).phase = s.phase :=
  State.of_maskOffer_phase (State.offerNotice_outside n s)
@[simp] theorem State.offerNotice_node (n : Notice) (s : State) : (State.offerNotice n s).node = s.node :=
  State.of_maskOffer_node (State.offerNotice_outside n s)
@[simp] theorem State.offerNotice_now (n : Notice) (s : State) : (State.offerNotice n s).now = s.now :=
  State.of_maskOffer_now (State.offerNotice_outside n s)
@[simp] theorem State.offerNotice_rows (n : Notice) (s : State) : (State.offerNotice n s).rows = s.rows :=
  State.of_maskOffer_rows (State.offerNotice_outside n s)
@[simp] theorem State.offerNotice_classes (n : Notice) (s : State) : (State.offerNotice n s).classes = s.classes :=
  State.of_maskOffer_classes (State.offerNotice_outside n s)
@[simp] theorem State.offerNotice_settings (n : Notice) (s : State) : (State.offerNotice n s).settings = s.settings :=
  State.of_maskOffer_settings (State.offerNotice_outside n s)
@[simp] theorem State.offerNotice_tripLatch (n : Notice) (s : State) : (State.offerNotice n s).tripLatch = s.tripLatch :=
  State.of_maskOffer_tripLatch (State.offerNotice_outside n s)
@[simp] theorem State.offerNotice_episode (n : Notice) (s : State) : (State.offerNotice n s).episode = s.episode :=
  State.of_maskOffer_episode (State.offerNotice_outside n s)
@[simp] theorem State.offerNotice_enrol (n : Notice) (s : State) : (State.offerNotice n s).enrol = s.enrol :=
  State.of_maskOffer_enrol (State.offerNotice_outside n s)
@[simp] theorem State.offerNotice_session (n : Notice) (s : State) : (State.offerNotice n s).session = s.session :=
  State.of_maskOffer_session (State.offerNotice_outside n s)
@[simp] theorem State.offerNotice_staging (n : Notice) (s : State) : (State.offerNotice n s).staging = s.staging :=
  State.of_maskOffer_staging (State.offerNotice_outside n s)
@[simp] theorem State.offerNotice_replay (n : Notice) (s : State) : (State.offerNotice n s).replay = s.replay :=
  State.of_maskOffer_replay (State.offerNotice_outside n s)
@[simp] theorem State.offerNotice_capture (n : Notice) (s : State) : (State.offerNotice n s).capture = s.capture :=
  State.of_maskOffer_capture (State.offerNotice_outside n s)
@[simp] theorem State.offerNotice_commandQ (n : Notice) (s : State) : (State.offerNotice n s).commandQ = s.commandQ :=
  State.of_maskOffer_commandQ (State.offerNotice_outside n s)
@[simp] theorem State.offerNotice_southTx (n : Notice) (s : State) : (State.offerNotice n s).southTx = s.southTx :=
  State.of_maskOffer_southTx (State.offerNotice_outside n s)
@[simp] theorem State.offerNotice_northRx (n : Notice) (s : State) : (State.offerNotice n s).northRx = s.northRx :=
  State.of_maskOffer_northRx (State.offerNotice_outside n s)
@[simp] theorem State.offerNotice_southRx (n : Notice) (s : State) : (State.offerNotice n s).southRx = s.southRx :=
  State.of_maskOffer_southRx (State.offerNotice_outside n s)
@[simp] theorem State.offerNotice_northCounters (n : Notice) (s : State) : (State.offerNotice n s).northCounters = s.northCounters :=
  State.of_maskOffer_northCounters (State.offerNotice_outside n s)
@[simp] theorem State.offerNotice_southCounters (n : Notice) (s : State) : (State.offerNotice n s).southCounters = s.southCounters :=
  State.of_maskOffer_southCounters (State.offerNotice_outside n s)
@[simp] theorem State.offerNotice_freeReads (n : Notice) (s : State) : (State.offerNotice n s).freeReads = s.freeReads :=
  State.of_maskOffer_freeReads (State.offerNotice_outside n s)

/-! ### Fields outside maskSouth -/

theorem State.of_maskSouth_pending {s t : State} (h : t.maskSouth = s.maskSouth) : t.pending = s.pending :=
  (congrArg State.pending h :)
theorem State.of_maskSouth_phase {s t : State} (h : t.maskSouth = s.maskSouth) : t.phase = s.phase :=
  (congrArg State.phase h :)
theorem State.of_maskSouth_node {s t : State} (h : t.maskSouth = s.maskSouth) : t.node = s.node :=
  (congrArg State.node h :)
theorem State.of_maskSouth_now {s t : State} (h : t.maskSouth = s.maskSouth) : t.now = s.now :=
  (congrArg State.now h :)
theorem State.of_maskSouth_rows {s t : State} (h : t.maskSouth = s.maskSouth) : t.rows = s.rows :=
  (congrArg State.rows h :)
theorem State.of_maskSouth_classes {s t : State} (h : t.maskSouth = s.maskSouth) : t.classes = s.classes :=
  (congrArg State.classes h :)
theorem State.of_maskSouth_settings {s t : State} (h : t.maskSouth = s.maskSouth) : t.settings = s.settings :=
  (congrArg State.settings h :)
theorem State.of_maskSouth_tripLatch {s t : State} (h : t.maskSouth = s.maskSouth) : t.tripLatch = s.tripLatch :=
  (congrArg State.tripLatch h :)
theorem State.of_maskSouth_alarms {s t : State} (h : t.maskSouth = s.maskSouth) : t.alarms = s.alarms :=
  (congrArg State.alarms h :)
theorem State.of_maskSouth_overflow {s t : State} (h : t.maskSouth = s.maskSouth) : t.overflow = s.overflow :=
  (congrArg State.overflow h :)
theorem State.of_maskSouth_episode {s t : State} (h : t.maskSouth = s.maskSouth) : t.episode = s.episode :=
  (congrArg State.episode h :)
theorem State.of_maskSouth_enrol {s t : State} (h : t.maskSouth = s.maskSouth) : t.enrol = s.enrol :=
  (congrArg State.enrol h :)
theorem State.of_maskSouth_session {s t : State} (h : t.maskSouth = s.maskSouth) : t.session = s.session :=
  (congrArg State.session h :)
theorem State.of_maskSouth_staging {s t : State} (h : t.maskSouth = s.maskSouth) : t.staging = s.staging :=
  (congrArg State.staging h :)
theorem State.of_maskSouth_replay {s t : State} (h : t.maskSouth = s.maskSouth) : t.replay = s.replay :=
  (congrArg State.replay h :)
theorem State.of_maskSouth_capture {s t : State} (h : t.maskSouth = s.maskSouth) : t.capture = s.capture :=
  (congrArg State.capture h :)
theorem State.of_maskSouth_forwardQ {s t : State} (h : t.maskSouth = s.maskSouth) : t.forwardQ = s.forwardQ :=
  (congrArg State.forwardQ h :)
theorem State.of_maskSouth_reportQ {s t : State} (h : t.maskSouth = s.maskSouth) : t.reportQ = s.reportQ :=
  (congrArg State.reportQ h :)
theorem State.of_maskSouth_noticeQ {s t : State} (h : t.maskSouth = s.maskSouth) : t.noticeQ = s.noticeQ :=
  (congrArg State.noticeQ h :)
theorem State.of_maskSouth_responseQ {s t : State} (h : t.maskSouth = s.maskSouth) : t.responseQ = s.responseQ :=
  (congrArg State.responseQ h :)
theorem State.of_maskSouth_guardCount {s t : State} (h : t.maskSouth = s.maskSouth) : t.guardCount = s.guardCount :=
  (congrArg State.guardCount h :)
theorem State.of_maskSouth_lostNotices {s t : State} (h : t.maskSouth = s.maskSouth) : t.lostNotices = s.lostNotices :=
  (congrArg State.lostNotices h :)
theorem State.of_maskSouth_northTx {s t : State} (h : t.maskSouth = s.maskSouth) : t.northTx = s.northTx :=
  (congrArg State.northTx h :)
theorem State.of_maskSouth_northRx {s t : State} (h : t.maskSouth = s.maskSouth) : t.northRx = s.northRx :=
  (congrArg State.northRx h :)
theorem State.of_maskSouth_southRx {s t : State} (h : t.maskSouth = s.maskSouth) : t.southRx = s.southRx :=
  (congrArg State.southRx h :)
theorem State.of_maskSouth_northCounters {s t : State} (h : t.maskSouth = s.maskSouth) : t.northCounters = s.northCounters :=
  (congrArg State.northCounters h :)
theorem State.of_maskSouth_southCounters {s t : State} (h : t.maskSouth = s.maskSouth) : t.southCounters = s.southCounters :=
  (congrArg State.southCounters h :)
theorem State.of_maskSouth_freeReads {s t : State} (h : t.maskSouth = s.maskSouth) : t.freeReads = s.freeReads :=
  (congrArg State.freeReads h :)

@[simp] theorem State.southJoined_pending (s : State) : (State.southJoined s).pending = s.pending :=
  State.of_maskSouth_pending (State.southJoined_outside s)
@[simp] theorem State.southJoined_phase (s : State) : (State.southJoined s).phase = s.phase :=
  State.of_maskSouth_phase (State.southJoined_outside s)
@[simp] theorem State.southJoined_node (s : State) : (State.southJoined s).node = s.node :=
  State.of_maskSouth_node (State.southJoined_outside s)
@[simp] theorem State.southJoined_now (s : State) : (State.southJoined s).now = s.now :=
  State.of_maskSouth_now (State.southJoined_outside s)
@[simp] theorem State.southJoined_rows (s : State) : (State.southJoined s).rows = s.rows :=
  State.of_maskSouth_rows (State.southJoined_outside s)
@[simp] theorem State.southJoined_classes (s : State) : (State.southJoined s).classes = s.classes :=
  State.of_maskSouth_classes (State.southJoined_outside s)
@[simp] theorem State.southJoined_settings (s : State) : (State.southJoined s).settings = s.settings :=
  State.of_maskSouth_settings (State.southJoined_outside s)
@[simp] theorem State.southJoined_tripLatch (s : State) : (State.southJoined s).tripLatch = s.tripLatch :=
  State.of_maskSouth_tripLatch (State.southJoined_outside s)
@[simp] theorem State.southJoined_alarms (s : State) : (State.southJoined s).alarms = s.alarms :=
  State.of_maskSouth_alarms (State.southJoined_outside s)
@[simp] theorem State.southJoined_overflow (s : State) : (State.southJoined s).overflow = s.overflow :=
  State.of_maskSouth_overflow (State.southJoined_outside s)
@[simp] theorem State.southJoined_episode (s : State) : (State.southJoined s).episode = s.episode :=
  State.of_maskSouth_episode (State.southJoined_outside s)
@[simp] theorem State.southJoined_enrol (s : State) : (State.southJoined s).enrol = s.enrol :=
  State.of_maskSouth_enrol (State.southJoined_outside s)
@[simp] theorem State.southJoined_session (s : State) : (State.southJoined s).session = s.session :=
  State.of_maskSouth_session (State.southJoined_outside s)
@[simp] theorem State.southJoined_staging (s : State) : (State.southJoined s).staging = s.staging :=
  State.of_maskSouth_staging (State.southJoined_outside s)
@[simp] theorem State.southJoined_replay (s : State) : (State.southJoined s).replay = s.replay :=
  State.of_maskSouth_replay (State.southJoined_outside s)
@[simp] theorem State.southJoined_capture (s : State) : (State.southJoined s).capture = s.capture :=
  State.of_maskSouth_capture (State.southJoined_outside s)
@[simp] theorem State.southJoined_forwardQ (s : State) : (State.southJoined s).forwardQ = s.forwardQ :=
  State.of_maskSouth_forwardQ (State.southJoined_outside s)
@[simp] theorem State.southJoined_reportQ (s : State) : (State.southJoined s).reportQ = s.reportQ :=
  State.of_maskSouth_reportQ (State.southJoined_outside s)
@[simp] theorem State.southJoined_noticeQ (s : State) : (State.southJoined s).noticeQ = s.noticeQ :=
  State.of_maskSouth_noticeQ (State.southJoined_outside s)
@[simp] theorem State.southJoined_responseQ (s : State) : (State.southJoined s).responseQ = s.responseQ :=
  State.of_maskSouth_responseQ (State.southJoined_outside s)
@[simp] theorem State.southJoined_guardCount (s : State) : (State.southJoined s).guardCount = s.guardCount :=
  State.of_maskSouth_guardCount (State.southJoined_outside s)
@[simp] theorem State.southJoined_lostNotices (s : State) : (State.southJoined s).lostNotices = s.lostNotices :=
  State.of_maskSouth_lostNotices (State.southJoined_outside s)
@[simp] theorem State.southJoined_northTx (s : State) : (State.southJoined s).northTx = s.northTx :=
  State.of_maskSouth_northTx (State.southJoined_outside s)
@[simp] theorem State.southJoined_northRx (s : State) : (State.southJoined s).northRx = s.northRx :=
  State.of_maskSouth_northRx (State.southJoined_outside s)
@[simp] theorem State.southJoined_southRx (s : State) : (State.southJoined s).southRx = s.southRx :=
  State.of_maskSouth_southRx (State.southJoined_outside s)
@[simp] theorem State.southJoined_northCounters (s : State) : (State.southJoined s).northCounters = s.northCounters :=
  State.of_maskSouth_northCounters (State.southJoined_outside s)
@[simp] theorem State.southJoined_southCounters (s : State) : (State.southJoined s).southCounters = s.southCounters :=
  State.of_maskSouth_southCounters (State.southJoined_outside s)
@[simp] theorem State.southJoined_freeReads (s : State) : (State.southJoined s).freeReads = s.freeReads :=
  State.of_maskSouth_freeReads (State.southJoined_outside s)

@[simp] theorem State.offerCommand_pending (f : Frame) (s : State) : (State.offerCommand f s).pending = s.pending :=
  State.of_maskSouth_pending (State.offerCommand_outside f s)
@[simp] theorem State.offerCommand_phase (f : Frame) (s : State) : (State.offerCommand f s).phase = s.phase :=
  State.of_maskSouth_phase (State.offerCommand_outside f s)
@[simp] theorem State.offerCommand_node (f : Frame) (s : State) : (State.offerCommand f s).node = s.node :=
  State.of_maskSouth_node (State.offerCommand_outside f s)
@[simp] theorem State.offerCommand_now (f : Frame) (s : State) : (State.offerCommand f s).now = s.now :=
  State.of_maskSouth_now (State.offerCommand_outside f s)
@[simp] theorem State.offerCommand_rows (f : Frame) (s : State) : (State.offerCommand f s).rows = s.rows :=
  State.of_maskSouth_rows (State.offerCommand_outside f s)
@[simp] theorem State.offerCommand_classes (f : Frame) (s : State) : (State.offerCommand f s).classes = s.classes :=
  State.of_maskSouth_classes (State.offerCommand_outside f s)
@[simp] theorem State.offerCommand_settings (f : Frame) (s : State) : (State.offerCommand f s).settings = s.settings :=
  State.of_maskSouth_settings (State.offerCommand_outside f s)
@[simp] theorem State.offerCommand_tripLatch (f : Frame) (s : State) : (State.offerCommand f s).tripLatch = s.tripLatch :=
  State.of_maskSouth_tripLatch (State.offerCommand_outside f s)
@[simp] theorem State.offerCommand_alarms (f : Frame) (s : State) : (State.offerCommand f s).alarms = s.alarms :=
  State.of_maskSouth_alarms (State.offerCommand_outside f s)
@[simp] theorem State.offerCommand_overflow (f : Frame) (s : State) : (State.offerCommand f s).overflow = s.overflow :=
  State.of_maskSouth_overflow (State.offerCommand_outside f s)
@[simp] theorem State.offerCommand_episode (f : Frame) (s : State) : (State.offerCommand f s).episode = s.episode :=
  State.of_maskSouth_episode (State.offerCommand_outside f s)
@[simp] theorem State.offerCommand_enrol (f : Frame) (s : State) : (State.offerCommand f s).enrol = s.enrol :=
  State.of_maskSouth_enrol (State.offerCommand_outside f s)
@[simp] theorem State.offerCommand_session (f : Frame) (s : State) : (State.offerCommand f s).session = s.session :=
  State.of_maskSouth_session (State.offerCommand_outside f s)
@[simp] theorem State.offerCommand_staging (f : Frame) (s : State) : (State.offerCommand f s).staging = s.staging :=
  State.of_maskSouth_staging (State.offerCommand_outside f s)
@[simp] theorem State.offerCommand_replay (f : Frame) (s : State) : (State.offerCommand f s).replay = s.replay :=
  State.of_maskSouth_replay (State.offerCommand_outside f s)
@[simp] theorem State.offerCommand_capture (f : Frame) (s : State) : (State.offerCommand f s).capture = s.capture :=
  State.of_maskSouth_capture (State.offerCommand_outside f s)
@[simp] theorem State.offerCommand_forwardQ (f : Frame) (s : State) : (State.offerCommand f s).forwardQ = s.forwardQ :=
  State.of_maskSouth_forwardQ (State.offerCommand_outside f s)
@[simp] theorem State.offerCommand_reportQ (f : Frame) (s : State) : (State.offerCommand f s).reportQ = s.reportQ :=
  State.of_maskSouth_reportQ (State.offerCommand_outside f s)
@[simp] theorem State.offerCommand_noticeQ (f : Frame) (s : State) : (State.offerCommand f s).noticeQ = s.noticeQ :=
  State.of_maskSouth_noticeQ (State.offerCommand_outside f s)
@[simp] theorem State.offerCommand_responseQ (f : Frame) (s : State) : (State.offerCommand f s).responseQ = s.responseQ :=
  State.of_maskSouth_responseQ (State.offerCommand_outside f s)
@[simp] theorem State.offerCommand_guardCount (f : Frame) (s : State) : (State.offerCommand f s).guardCount = s.guardCount :=
  State.of_maskSouth_guardCount (State.offerCommand_outside f s)
@[simp] theorem State.offerCommand_lostNotices (f : Frame) (s : State) : (State.offerCommand f s).lostNotices = s.lostNotices :=
  State.of_maskSouth_lostNotices (State.offerCommand_outside f s)
@[simp] theorem State.offerCommand_northTx (f : Frame) (s : State) : (State.offerCommand f s).northTx = s.northTx :=
  State.of_maskSouth_northTx (State.offerCommand_outside f s)
@[simp] theorem State.offerCommand_northRx (f : Frame) (s : State) : (State.offerCommand f s).northRx = s.northRx :=
  State.of_maskSouth_northRx (State.offerCommand_outside f s)
@[simp] theorem State.offerCommand_southRx (f : Frame) (s : State) : (State.offerCommand f s).southRx = s.southRx :=
  State.of_maskSouth_southRx (State.offerCommand_outside f s)
@[simp] theorem State.offerCommand_northCounters (f : Frame) (s : State) : (State.offerCommand f s).northCounters = s.northCounters :=
  State.of_maskSouth_northCounters (State.offerCommand_outside f s)
@[simp] theorem State.offerCommand_southCounters (f : Frame) (s : State) : (State.offerCommand f s).southCounters = s.southCounters :=
  State.of_maskSouth_southCounters (State.offerCommand_outside f s)
@[simp] theorem State.offerCommand_freeReads (f : Frame) (s : State) : (State.offerCommand f s).freeReads = s.freeReads :=
  State.of_maskSouth_freeReads (State.offerCommand_outside f s)

/-! ### Fields outside maskCapture -/

theorem State.of_maskCapture_pending {s t : State} (h : t.maskCapture = s.maskCapture) : t.pending = s.pending :=
  (congrArg State.pending h :)
theorem State.of_maskCapture_phase {s t : State} (h : t.maskCapture = s.maskCapture) : t.phase = s.phase :=
  (congrArg State.phase h :)
theorem State.of_maskCapture_node {s t : State} (h : t.maskCapture = s.maskCapture) : t.node = s.node :=
  (congrArg State.node h :)
theorem State.of_maskCapture_now {s t : State} (h : t.maskCapture = s.maskCapture) : t.now = s.now :=
  (congrArg State.now h :)
theorem State.of_maskCapture_rows {s t : State} (h : t.maskCapture = s.maskCapture) : t.rows = s.rows :=
  (congrArg State.rows h :)
theorem State.of_maskCapture_classes {s t : State} (h : t.maskCapture = s.maskCapture) : t.classes = s.classes :=
  (congrArg State.classes h :)
theorem State.of_maskCapture_settings {s t : State} (h : t.maskCapture = s.maskCapture) : t.settings = s.settings :=
  (congrArg State.settings h :)
theorem State.of_maskCapture_tripLatch {s t : State} (h : t.maskCapture = s.maskCapture) : t.tripLatch = s.tripLatch :=
  (congrArg State.tripLatch h :)
theorem State.of_maskCapture_episode {s t : State} (h : t.maskCapture = s.maskCapture) : t.episode = s.episode :=
  (congrArg State.episode h :)
theorem State.of_maskCapture_enrol {s t : State} (h : t.maskCapture = s.maskCapture) : t.enrol = s.enrol :=
  (congrArg State.enrol h :)
theorem State.of_maskCapture_session {s t : State} (h : t.maskCapture = s.maskCapture) : t.session = s.session :=
  (congrArg State.session h :)
theorem State.of_maskCapture_staging {s t : State} (h : t.maskCapture = s.maskCapture) : t.staging = s.staging :=
  (congrArg State.staging h :)
theorem State.of_maskCapture_replay {s t : State} (h : t.maskCapture = s.maskCapture) : t.replay = s.replay :=
  (congrArg State.replay h :)
theorem State.of_maskCapture_commandQ {s t : State} (h : t.maskCapture = s.maskCapture) : t.commandQ = s.commandQ :=
  (congrArg State.commandQ h :)
theorem State.of_maskCapture_southTx {s t : State} (h : t.maskCapture = s.maskCapture) : t.southTx = s.southTx :=
  (congrArg State.southTx h :)
theorem State.of_maskCapture_northRx {s t : State} (h : t.maskCapture = s.maskCapture) : t.northRx = s.northRx :=
  (congrArg State.northRx h :)
theorem State.of_maskCapture_southRx {s t : State} (h : t.maskCapture = s.maskCapture) : t.southRx = s.southRx :=
  (congrArg State.southRx h :)
theorem State.of_maskCapture_northCounters {s t : State} (h : t.maskCapture = s.maskCapture) : t.northCounters = s.northCounters :=
  (congrArg State.northCounters h :)
theorem State.of_maskCapture_southCounters {s t : State} (h : t.maskCapture = s.maskCapture) : t.southCounters = s.southCounters :=
  (congrArg State.southCounters h :)
theorem State.of_maskCapture_freeReads {s t : State} (h : t.maskCapture = s.maskCapture) : t.freeReads = s.freeReads :=
  (congrArg State.freeReads h :)

@[simp] theorem State.takeElement_pending (addr : ChannelAddr) (e : Element) (s : State) : (State.takeElement addr e s).pending = s.pending :=
  State.of_maskCapture_pending (State.takeElement_outside addr e s)
@[simp] theorem State.takeElement_phase (addr : ChannelAddr) (e : Element) (s : State) : (State.takeElement addr e s).phase = s.phase :=
  State.of_maskCapture_phase (State.takeElement_outside addr e s)
@[simp] theorem State.takeElement_node (addr : ChannelAddr) (e : Element) (s : State) : (State.takeElement addr e s).node = s.node :=
  State.of_maskCapture_node (State.takeElement_outside addr e s)
@[simp] theorem State.takeElement_now (addr : ChannelAddr) (e : Element) (s : State) : (State.takeElement addr e s).now = s.now :=
  State.of_maskCapture_now (State.takeElement_outside addr e s)
@[simp] theorem State.takeElement_rows (addr : ChannelAddr) (e : Element) (s : State) : (State.takeElement addr e s).rows = s.rows :=
  State.of_maskCapture_rows (State.takeElement_outside addr e s)
@[simp] theorem State.takeElement_classes (addr : ChannelAddr) (e : Element) (s : State) : (State.takeElement addr e s).classes = s.classes :=
  State.of_maskCapture_classes (State.takeElement_outside addr e s)
@[simp] theorem State.takeElement_settings (addr : ChannelAddr) (e : Element) (s : State) : (State.takeElement addr e s).settings = s.settings :=
  State.of_maskCapture_settings (State.takeElement_outside addr e s)
@[simp] theorem State.takeElement_tripLatch (addr : ChannelAddr) (e : Element) (s : State) : (State.takeElement addr e s).tripLatch = s.tripLatch :=
  State.of_maskCapture_tripLatch (State.takeElement_outside addr e s)
@[simp] theorem State.takeElement_episode (addr : ChannelAddr) (e : Element) (s : State) : (State.takeElement addr e s).episode = s.episode :=
  State.of_maskCapture_episode (State.takeElement_outside addr e s)
@[simp] theorem State.takeElement_enrol (addr : ChannelAddr) (e : Element) (s : State) : (State.takeElement addr e s).enrol = s.enrol :=
  State.of_maskCapture_enrol (State.takeElement_outside addr e s)
@[simp] theorem State.takeElement_session (addr : ChannelAddr) (e : Element) (s : State) : (State.takeElement addr e s).session = s.session :=
  State.of_maskCapture_session (State.takeElement_outside addr e s)
@[simp] theorem State.takeElement_staging (addr : ChannelAddr) (e : Element) (s : State) : (State.takeElement addr e s).staging = s.staging :=
  State.of_maskCapture_staging (State.takeElement_outside addr e s)
@[simp] theorem State.takeElement_replay (addr : ChannelAddr) (e : Element) (s : State) : (State.takeElement addr e s).replay = s.replay :=
  State.of_maskCapture_replay (State.takeElement_outside addr e s)
@[simp] theorem State.takeElement_commandQ (addr : ChannelAddr) (e : Element) (s : State) : (State.takeElement addr e s).commandQ = s.commandQ :=
  State.of_maskCapture_commandQ (State.takeElement_outside addr e s)
@[simp] theorem State.takeElement_southTx (addr : ChannelAddr) (e : Element) (s : State) : (State.takeElement addr e s).southTx = s.southTx :=
  State.of_maskCapture_southTx (State.takeElement_outside addr e s)
@[simp] theorem State.takeElement_northRx (addr : ChannelAddr) (e : Element) (s : State) : (State.takeElement addr e s).northRx = s.northRx :=
  State.of_maskCapture_northRx (State.takeElement_outside addr e s)
@[simp] theorem State.takeElement_southRx (addr : ChannelAddr) (e : Element) (s : State) : (State.takeElement addr e s).southRx = s.southRx :=
  State.of_maskCapture_southRx (State.takeElement_outside addr e s)
@[simp] theorem State.takeElement_northCounters (addr : ChannelAddr) (e : Element) (s : State) : (State.takeElement addr e s).northCounters = s.northCounters :=
  State.of_maskCapture_northCounters (State.takeElement_outside addr e s)
@[simp] theorem State.takeElement_southCounters (addr : ChannelAddr) (e : Element) (s : State) : (State.takeElement addr e s).southCounters = s.southCounters :=
  State.of_maskCapture_southCounters (State.takeElement_outside addr e s)
@[simp] theorem State.takeElement_freeReads (addr : ChannelAddr) (e : Element) (s : State) : (State.takeElement addr e s).freeReads = s.freeReads :=
  State.of_maskCapture_freeReads (State.takeElement_outside addr e s)

@[simp] theorem State.captureRowDeleted_pending (addr : ChannelAddr) (s : State) : (State.captureRowDeleted addr s).pending = s.pending :=
  State.of_maskCapture_pending (State.captureRowDeleted_outside addr s)
@[simp] theorem State.captureRowDeleted_phase (addr : ChannelAddr) (s : State) : (State.captureRowDeleted addr s).phase = s.phase :=
  State.of_maskCapture_phase (State.captureRowDeleted_outside addr s)
@[simp] theorem State.captureRowDeleted_node (addr : ChannelAddr) (s : State) : (State.captureRowDeleted addr s).node = s.node :=
  State.of_maskCapture_node (State.captureRowDeleted_outside addr s)
@[simp] theorem State.captureRowDeleted_now (addr : ChannelAddr) (s : State) : (State.captureRowDeleted addr s).now = s.now :=
  State.of_maskCapture_now (State.captureRowDeleted_outside addr s)
@[simp] theorem State.captureRowDeleted_rows (addr : ChannelAddr) (s : State) : (State.captureRowDeleted addr s).rows = s.rows :=
  State.of_maskCapture_rows (State.captureRowDeleted_outside addr s)
@[simp] theorem State.captureRowDeleted_classes (addr : ChannelAddr) (s : State) : (State.captureRowDeleted addr s).classes = s.classes :=
  State.of_maskCapture_classes (State.captureRowDeleted_outside addr s)
@[simp] theorem State.captureRowDeleted_settings (addr : ChannelAddr) (s : State) : (State.captureRowDeleted addr s).settings = s.settings :=
  State.of_maskCapture_settings (State.captureRowDeleted_outside addr s)
@[simp] theorem State.captureRowDeleted_tripLatch (addr : ChannelAddr) (s : State) : (State.captureRowDeleted addr s).tripLatch = s.tripLatch :=
  State.of_maskCapture_tripLatch (State.captureRowDeleted_outside addr s)
@[simp] theorem State.captureRowDeleted_episode (addr : ChannelAddr) (s : State) : (State.captureRowDeleted addr s).episode = s.episode :=
  State.of_maskCapture_episode (State.captureRowDeleted_outside addr s)
@[simp] theorem State.captureRowDeleted_enrol (addr : ChannelAddr) (s : State) : (State.captureRowDeleted addr s).enrol = s.enrol :=
  State.of_maskCapture_enrol (State.captureRowDeleted_outside addr s)
@[simp] theorem State.captureRowDeleted_session (addr : ChannelAddr) (s : State) : (State.captureRowDeleted addr s).session = s.session :=
  State.of_maskCapture_session (State.captureRowDeleted_outside addr s)
@[simp] theorem State.captureRowDeleted_staging (addr : ChannelAddr) (s : State) : (State.captureRowDeleted addr s).staging = s.staging :=
  State.of_maskCapture_staging (State.captureRowDeleted_outside addr s)
@[simp] theorem State.captureRowDeleted_replay (addr : ChannelAddr) (s : State) : (State.captureRowDeleted addr s).replay = s.replay :=
  State.of_maskCapture_replay (State.captureRowDeleted_outside addr s)
@[simp] theorem State.captureRowDeleted_commandQ (addr : ChannelAddr) (s : State) : (State.captureRowDeleted addr s).commandQ = s.commandQ :=
  State.of_maskCapture_commandQ (State.captureRowDeleted_outside addr s)
@[simp] theorem State.captureRowDeleted_southTx (addr : ChannelAddr) (s : State) : (State.captureRowDeleted addr s).southTx = s.southTx :=
  State.of_maskCapture_southTx (State.captureRowDeleted_outside addr s)
@[simp] theorem State.captureRowDeleted_northRx (addr : ChannelAddr) (s : State) : (State.captureRowDeleted addr s).northRx = s.northRx :=
  State.of_maskCapture_northRx (State.captureRowDeleted_outside addr s)
@[simp] theorem State.captureRowDeleted_southRx (addr : ChannelAddr) (s : State) : (State.captureRowDeleted addr s).southRx = s.southRx :=
  State.of_maskCapture_southRx (State.captureRowDeleted_outside addr s)
@[simp] theorem State.captureRowDeleted_northCounters (addr : ChannelAddr) (s : State) : (State.captureRowDeleted addr s).northCounters = s.northCounters :=
  State.of_maskCapture_northCounters (State.captureRowDeleted_outside addr s)
@[simp] theorem State.captureRowDeleted_southCounters (addr : ChannelAddr) (s : State) : (State.captureRowDeleted addr s).southCounters = s.southCounters :=
  State.of_maskCapture_southCounters (State.captureRowDeleted_outside addr s)
@[simp] theorem State.captureRowDeleted_freeReads (addr : ChannelAddr) (s : State) : (State.captureRowDeleted addr s).freeReads = s.freeReads :=
  State.of_maskCapture_freeReads (State.captureRowDeleted_outside addr s)

/-! ### Fields outside maskRaise -/

theorem State.of_maskRaise_pending {s t : State} (h : t.maskRaise = s.maskRaise) : t.pending = s.pending :=
  (congrArg State.pending h :)
theorem State.of_maskRaise_phase {s t : State} (h : t.maskRaise = s.maskRaise) : t.phase = s.phase :=
  (congrArg State.phase h :)
theorem State.of_maskRaise_node {s t : State} (h : t.maskRaise = s.maskRaise) : t.node = s.node :=
  (congrArg State.node h :)
theorem State.of_maskRaise_now {s t : State} (h : t.maskRaise = s.maskRaise) : t.now = s.now :=
  (congrArg State.now h :)
theorem State.of_maskRaise_rows {s t : State} (h : t.maskRaise = s.maskRaise) : t.rows = s.rows :=
  (congrArg State.rows h :)
theorem State.of_maskRaise_classes {s t : State} (h : t.maskRaise = s.maskRaise) : t.classes = s.classes :=
  (congrArg State.classes h :)
theorem State.of_maskRaise_settings {s t : State} (h : t.maskRaise = s.maskRaise) : t.settings = s.settings :=
  (congrArg State.settings h :)
theorem State.of_maskRaise_tripLatch {s t : State} (h : t.maskRaise = s.maskRaise) : t.tripLatch = s.tripLatch :=
  (congrArg State.tripLatch h :)
theorem State.of_maskRaise_enrol {s t : State} (h : t.maskRaise = s.maskRaise) : t.enrol = s.enrol :=
  (congrArg State.enrol h :)
theorem State.of_maskRaise_session {s t : State} (h : t.maskRaise = s.maskRaise) : t.session = s.session :=
  (congrArg State.session h :)
theorem State.of_maskRaise_staging {s t : State} (h : t.maskRaise = s.maskRaise) : t.staging = s.staging :=
  (congrArg State.staging h :)
theorem State.of_maskRaise_replay {s t : State} (h : t.maskRaise = s.maskRaise) : t.replay = s.replay :=
  (congrArg State.replay h :)
theorem State.of_maskRaise_commandQ {s t : State} (h : t.maskRaise = s.maskRaise) : t.commandQ = s.commandQ :=
  (congrArg State.commandQ h :)
theorem State.of_maskRaise_southTx {s t : State} (h : t.maskRaise = s.maskRaise) : t.southTx = s.southTx :=
  (congrArg State.southTx h :)
theorem State.of_maskRaise_northRx {s t : State} (h : t.maskRaise = s.maskRaise) : t.northRx = s.northRx :=
  (congrArg State.northRx h :)
theorem State.of_maskRaise_southRx {s t : State} (h : t.maskRaise = s.maskRaise) : t.southRx = s.southRx :=
  (congrArg State.southRx h :)
theorem State.of_maskRaise_northCounters {s t : State} (h : t.maskRaise = s.maskRaise) : t.northCounters = s.northCounters :=
  (congrArg State.northCounters h :)
theorem State.of_maskRaise_southCounters {s t : State} (h : t.maskRaise = s.maskRaise) : t.southCounters = s.southCounters :=
  (congrArg State.southCounters h :)
theorem State.of_maskRaise_partCounters {s t : State} (h : t.maskRaise = s.maskRaise) : t.partCounters = s.partCounters :=
  (congrArg State.partCounters h :)
theorem State.of_maskRaise_freeReads {s t : State} (h : t.maskRaise = s.maskRaise) : t.freeReads = s.freeReads :=
  (congrArg State.freeReads h :)

@[simp] theorem State.takeRaise_pending (addr : ChannelAddr) (kind : AlarmKind) (time : Time) (v : Value) (s : State) : (State.takeRaise addr kind time v s).pending = s.pending :=
  State.of_maskRaise_pending (State.takeRaise_outside addr kind time v s)
@[simp] theorem State.takeRaise_phase (addr : ChannelAddr) (kind : AlarmKind) (time : Time) (v : Value) (s : State) : (State.takeRaise addr kind time v s).phase = s.phase :=
  State.of_maskRaise_phase (State.takeRaise_outside addr kind time v s)
@[simp] theorem State.takeRaise_node (addr : ChannelAddr) (kind : AlarmKind) (time : Time) (v : Value) (s : State) : (State.takeRaise addr kind time v s).node = s.node :=
  State.of_maskRaise_node (State.takeRaise_outside addr kind time v s)
@[simp] theorem State.takeRaise_now (addr : ChannelAddr) (kind : AlarmKind) (time : Time) (v : Value) (s : State) : (State.takeRaise addr kind time v s).now = s.now :=
  State.of_maskRaise_now (State.takeRaise_outside addr kind time v s)
@[simp] theorem State.takeRaise_rows (addr : ChannelAddr) (kind : AlarmKind) (time : Time) (v : Value) (s : State) : (State.takeRaise addr kind time v s).rows = s.rows :=
  State.of_maskRaise_rows (State.takeRaise_outside addr kind time v s)
@[simp] theorem State.takeRaise_classes (addr : ChannelAddr) (kind : AlarmKind) (time : Time) (v : Value) (s : State) : (State.takeRaise addr kind time v s).classes = s.classes :=
  State.of_maskRaise_classes (State.takeRaise_outside addr kind time v s)
@[simp] theorem State.takeRaise_settings (addr : ChannelAddr) (kind : AlarmKind) (time : Time) (v : Value) (s : State) : (State.takeRaise addr kind time v s).settings = s.settings :=
  State.of_maskRaise_settings (State.takeRaise_outside addr kind time v s)
@[simp] theorem State.takeRaise_tripLatch (addr : ChannelAddr) (kind : AlarmKind) (time : Time) (v : Value) (s : State) : (State.takeRaise addr kind time v s).tripLatch = s.tripLatch :=
  State.of_maskRaise_tripLatch (State.takeRaise_outside addr kind time v s)
@[simp] theorem State.takeRaise_enrol (addr : ChannelAddr) (kind : AlarmKind) (time : Time) (v : Value) (s : State) : (State.takeRaise addr kind time v s).enrol = s.enrol :=
  State.of_maskRaise_enrol (State.takeRaise_outside addr kind time v s)
@[simp] theorem State.takeRaise_session (addr : ChannelAddr) (kind : AlarmKind) (time : Time) (v : Value) (s : State) : (State.takeRaise addr kind time v s).session = s.session :=
  State.of_maskRaise_session (State.takeRaise_outside addr kind time v s)
@[simp] theorem State.takeRaise_staging (addr : ChannelAddr) (kind : AlarmKind) (time : Time) (v : Value) (s : State) : (State.takeRaise addr kind time v s).staging = s.staging :=
  State.of_maskRaise_staging (State.takeRaise_outside addr kind time v s)
@[simp] theorem State.takeRaise_replay (addr : ChannelAddr) (kind : AlarmKind) (time : Time) (v : Value) (s : State) : (State.takeRaise addr kind time v s).replay = s.replay :=
  State.of_maskRaise_replay (State.takeRaise_outside addr kind time v s)
@[simp] theorem State.takeRaise_commandQ (addr : ChannelAddr) (kind : AlarmKind) (time : Time) (v : Value) (s : State) : (State.takeRaise addr kind time v s).commandQ = s.commandQ :=
  State.of_maskRaise_commandQ (State.takeRaise_outside addr kind time v s)
@[simp] theorem State.takeRaise_southTx (addr : ChannelAddr) (kind : AlarmKind) (time : Time) (v : Value) (s : State) : (State.takeRaise addr kind time v s).southTx = s.southTx :=
  State.of_maskRaise_southTx (State.takeRaise_outside addr kind time v s)
@[simp] theorem State.takeRaise_northRx (addr : ChannelAddr) (kind : AlarmKind) (time : Time) (v : Value) (s : State) : (State.takeRaise addr kind time v s).northRx = s.northRx :=
  State.of_maskRaise_northRx (State.takeRaise_outside addr kind time v s)
@[simp] theorem State.takeRaise_southRx (addr : ChannelAddr) (kind : AlarmKind) (time : Time) (v : Value) (s : State) : (State.takeRaise addr kind time v s).southRx = s.southRx :=
  State.of_maskRaise_southRx (State.takeRaise_outside addr kind time v s)
@[simp] theorem State.takeRaise_northCounters (addr : ChannelAddr) (kind : AlarmKind) (time : Time) (v : Value) (s : State) : (State.takeRaise addr kind time v s).northCounters = s.northCounters :=
  State.of_maskRaise_northCounters (State.takeRaise_outside addr kind time v s)
@[simp] theorem State.takeRaise_southCounters (addr : ChannelAddr) (kind : AlarmKind) (time : Time) (v : Value) (s : State) : (State.takeRaise addr kind time v s).southCounters = s.southCounters :=
  State.of_maskRaise_southCounters (State.takeRaise_outside addr kind time v s)
@[simp] theorem State.takeRaise_partCounters (addr : ChannelAddr) (kind : AlarmKind) (time : Time) (v : Value) (s : State) : (State.takeRaise addr kind time v s).partCounters = s.partCounters :=
  State.of_maskRaise_partCounters (State.takeRaise_outside addr kind time v s)
@[simp] theorem State.takeRaise_freeReads (addr : ChannelAddr) (kind : AlarmKind) (time : Time) (v : Value) (s : State) : (State.takeRaise addr kind time v s).freeReads = s.freeReads :=
  State.of_maskRaise_freeReads (State.takeRaise_outside addr kind time v s)

@[simp] theorem State.takeAlarmEvents_pending (es : List AlarmEvent) (s : State) : (State.takeAlarmEvents es s).pending = s.pending :=
  State.of_maskRaise_pending (State.takeAlarmEvents_outside es s)
@[simp] theorem State.takeAlarmEvents_phase (es : List AlarmEvent) (s : State) : (State.takeAlarmEvents es s).phase = s.phase :=
  State.of_maskRaise_phase (State.takeAlarmEvents_outside es s)
@[simp] theorem State.takeAlarmEvents_node (es : List AlarmEvent) (s : State) : (State.takeAlarmEvents es s).node = s.node :=
  State.of_maskRaise_node (State.takeAlarmEvents_outside es s)
@[simp] theorem State.takeAlarmEvents_now (es : List AlarmEvent) (s : State) : (State.takeAlarmEvents es s).now = s.now :=
  State.of_maskRaise_now (State.takeAlarmEvents_outside es s)
@[simp] theorem State.takeAlarmEvents_rows (es : List AlarmEvent) (s : State) : (State.takeAlarmEvents es s).rows = s.rows :=
  State.of_maskRaise_rows (State.takeAlarmEvents_outside es s)
@[simp] theorem State.takeAlarmEvents_classes (es : List AlarmEvent) (s : State) : (State.takeAlarmEvents es s).classes = s.classes :=
  State.of_maskRaise_classes (State.takeAlarmEvents_outside es s)
@[simp] theorem State.takeAlarmEvents_settings (es : List AlarmEvent) (s : State) : (State.takeAlarmEvents es s).settings = s.settings :=
  State.of_maskRaise_settings (State.takeAlarmEvents_outside es s)
@[simp] theorem State.takeAlarmEvents_tripLatch (es : List AlarmEvent) (s : State) : (State.takeAlarmEvents es s).tripLatch = s.tripLatch :=
  State.of_maskRaise_tripLatch (State.takeAlarmEvents_outside es s)
@[simp] theorem State.takeAlarmEvents_enrol (es : List AlarmEvent) (s : State) : (State.takeAlarmEvents es s).enrol = s.enrol :=
  State.of_maskRaise_enrol (State.takeAlarmEvents_outside es s)
@[simp] theorem State.takeAlarmEvents_session (es : List AlarmEvent) (s : State) : (State.takeAlarmEvents es s).session = s.session :=
  State.of_maskRaise_session (State.takeAlarmEvents_outside es s)
@[simp] theorem State.takeAlarmEvents_staging (es : List AlarmEvent) (s : State) : (State.takeAlarmEvents es s).staging = s.staging :=
  State.of_maskRaise_staging (State.takeAlarmEvents_outside es s)
@[simp] theorem State.takeAlarmEvents_replay (es : List AlarmEvent) (s : State) : (State.takeAlarmEvents es s).replay = s.replay :=
  State.of_maskRaise_replay (State.takeAlarmEvents_outside es s)
@[simp] theorem State.takeAlarmEvents_commandQ (es : List AlarmEvent) (s : State) : (State.takeAlarmEvents es s).commandQ = s.commandQ :=
  State.of_maskRaise_commandQ (State.takeAlarmEvents_outside es s)
@[simp] theorem State.takeAlarmEvents_southTx (es : List AlarmEvent) (s : State) : (State.takeAlarmEvents es s).southTx = s.southTx :=
  State.of_maskRaise_southTx (State.takeAlarmEvents_outside es s)
@[simp] theorem State.takeAlarmEvents_northRx (es : List AlarmEvent) (s : State) : (State.takeAlarmEvents es s).northRx = s.northRx :=
  State.of_maskRaise_northRx (State.takeAlarmEvents_outside es s)
@[simp] theorem State.takeAlarmEvents_southRx (es : List AlarmEvent) (s : State) : (State.takeAlarmEvents es s).southRx = s.southRx :=
  State.of_maskRaise_southRx (State.takeAlarmEvents_outside es s)
@[simp] theorem State.takeAlarmEvents_northCounters (es : List AlarmEvent) (s : State) : (State.takeAlarmEvents es s).northCounters = s.northCounters :=
  State.of_maskRaise_northCounters (State.takeAlarmEvents_outside es s)
@[simp] theorem State.takeAlarmEvents_southCounters (es : List AlarmEvent) (s : State) : (State.takeAlarmEvents es s).southCounters = s.southCounters :=
  State.of_maskRaise_southCounters (State.takeAlarmEvents_outside es s)
@[simp] theorem State.takeAlarmEvents_partCounters (es : List AlarmEvent) (s : State) : (State.takeAlarmEvents es s).partCounters = s.partCounters :=
  State.of_maskRaise_partCounters (State.takeAlarmEvents_outside es s)
@[simp] theorem State.takeAlarmEvents_freeReads (es : List AlarmEvent) (s : State) : (State.takeAlarmEvents es s).freeReads = s.freeReads :=
  State.of_maskRaise_freeReads (State.takeAlarmEvents_outside es s)

end Sys2Proof.Machine
end

