-- ==== Sys2Proof/Laws/Egress.lean ====
section
/-! SUPPORT. What the arbiters' picks and the offers can do, case by case (chapter 9). -/

namespace Sys2Proof.Machine

open Sys2Proof

/-- A joining while the North transmitter is busy makes no pick (R162). -/
theorem State.northJoined_busy {s : State} {f : Frame} (h : s.northTx = some f) : s.northJoined = s := by
  unfold State.northJoined; simp [h]

/-- A joining while the North transmitter is idle makes a pick (R162). -/
theorem State.northJoined_idle {s : State} (h : s.northTx = none) : s.northJoined = s.pickNorth := by
  unfold State.northJoined; simp [h]

/-- Every outcome of a North pick (R162 to R164). -/
theorem State.pickNorth_cases (s : State) :
    (s.responseQ = [] ∧ s.reportQ = [] ∧ s.noticeQ = [] ∧ s.forwardQ = [] ∧ s.pickNorth = s) ∨
    (∃ f rest, s.forwardQ = f :: rest ∧
      s.pickNorth = { s with forwardQ := rest, guardCount := 0, northTx := some f }) ∨
    (∃ f rest, (s.guardCount ≠ Config.guardLimit ∨ s.forwardQ = []) ∧ s.responseQ = f :: rest ∧
      s.pickNorth = { s with responseQ := rest, guardCount := s.guardAfter, northTx := some f }) ∨
    (∃ r rest, (s.guardCount ≠ Config.guardLimit ∨ s.forwardQ = []) ∧ s.responseQ = [] ∧ s.reportQ = r :: rest ∧
      s.pickNorth = State.takeReport r { s with reportQ := rest, guardCount := s.guardAfter }) ∨
    (∃ n rest, (s.guardCount ≠ Config.guardLimit ∨ s.forwardQ = []) ∧ s.responseQ = [] ∧ s.reportQ = [] ∧
      s.noticeQ = n :: rest ∧
      s.pickNorth = { s with noticeQ := rest, guardCount := s.guardAfter,
                             northTx := some (noticeFrame s.node s.lostNotices n), lostNotices := 0 }) := by
  by_cases hg : s.guardCount = Config.guardLimit ∧ s.forwardQ ≠ []
  · have : s.pickNorth = s.pickForward := if_pos hg
    rw [this]
    cases hf : s.forwardQ with
    | nil => exact absurd hf hg.2
    | cons f rest => exact Or.inr (Or.inl ⟨f, rest, rfl, by simp [State.pickForward, hf]⟩)
  · have he : s.pickNorth = s.pickResponse := if_neg hg
    have hn : s.guardCount ≠ Config.guardLimit ∨ s.forwardQ = [] := by
      by_cases h : s.guardCount = Config.guardLimit
      · exact Or.inr (by by_contra hc; exact hg ⟨h, hc⟩)
      · exact Or.inl h
    rw [he]
    unfold State.pickResponse State.pickReport State.pickNotice State.pickForward
    cases hr : s.responseQ with
    | cons f rest => exact Or.inr (Or.inr (Or.inl ⟨f, rest, hn, rfl, rfl⟩))
    | nil =>
      cases hp : s.reportQ with
      | cons r rest => exact Or.inr (Or.inr (Or.inr (Or.inl ⟨r, rest, hn, rfl, rfl, rfl⟩)))
      | nil =>
        cases ho : s.noticeQ with
        | cons n rest => exact Or.inr (Or.inr (Or.inr (Or.inr ⟨n, rest, hn, rfl, rfl, rfl, rfl⟩)))
        | nil =>
          cases hf : s.forwardQ with
          | nil => exact Or.inl ⟨rfl, rfl, rfl, rfl, rfl⟩
          | cons f rest => exact Or.inr (Or.inl ⟨f, rest, rfl, rfl⟩)

/-- Every outcome of a South pick (R166). -/
theorem State.pickSouth_cases (s : State) :
    (∃ f rest, s.commandQ = f :: rest ∧ s.pickSouth = { s with commandQ := rest, southTx := .command f }) ∨
    (∃ e, s.commandQ = [] ∧ s.enrol.find? (·.probeOwed) = some e ∧
      s.pickSouth = { s with southTx := .probe e.addr (probeFrame s.node e.addr) }) ∨
    (s.commandQ = [] ∧ (∀ e ∈ s.enrol, e.probeOwed = false) ∧ s.pickSouth = { s with southTx := .idle }) := by
  unfold State.pickSouth
  cases hc : s.commandQ with
  | cons f rest => exact Or.inl ⟨f, rest, rfl, rfl⟩
  | nil =>
    cases hf : s.enrol.find? (·.probeOwed) with
    | some e => exact Or.inr (Or.inl ⟨e, rfl, rfl, rfl⟩)
    | none => exact Or.inr (Or.inr ⟨rfl, by simpa using hf, rfl⟩)

/-- A joining on the South side while the transmitter is busy makes no pick (R166). -/
theorem State.southJoined_busy {s : State} (h : s.southTx ≠ .idle) : s.southJoined = s := if_neg h

/-- A joining on the South side while the transmitter is idle makes a pick (R166). -/
theorem State.southJoined_idle {s : State} (h : s.southTx = .idle) : s.southJoined = s.pickSouth := if_pos h

/-- An offer to the Forward Queue with room (R158). -/
theorem State.offerForward_room {s : State} (f : Frame) (h : s.forwardQ.length < Config.forwardCapacity) :
    s.offerForward f = State.northJoined { s with forwardQ := s.forwardQ ++ [f] } := by
  unfold State.offerForward State.forwardRoom; simp [h]

/-- An offer to a full Forward Queue (R158). -/
theorem State.offerForward_full {s : State} (f : Frame) (h : Config.forwardCapacity ≤ s.forwardQ.length) :
    s.offerForward f = s.countForwardDrop := by
  unfold State.offerForward State.forwardRoom; simp [not_lt.mpr h]

/-- An offer to the Notice Queue with room (R160). -/
theorem State.offerNotice_room {s : State} (n : Notice) (h : s.noticeQ.length < Config.noticeCapacity) :
    s.offerNotice n = State.northJoined { s with noticeQ := s.noticeQ ++ [n] } := if_pos h

/-- An offer to a full Notice Queue: the lost-notice count and the notices-lost counter (R160). -/
theorem State.offerNotice_full {s : State} (n : Notice) (h : Config.noticeCapacity ≤ s.noticeQ.length) :
    s.offerNotice n =
      { s with
        lostNotices := satInc 255 s.lostNotices
        partCounters := { s.partCounters with noticesLost := s.partCounters.noticesLost + 1 } } :=
  if_neg (not_lt.mpr h)

/-- A reference placed under a busy North transmitter joins the queue unless it is held (R91, R159). -/
theorem State.placeReference_busy {s : State} {f : Frame} (r : Reference) (h : s.northTx = some f) :
    s.placeReference r = { s with reportQ := s.reportQ ++ [r].filter (fun r => r ∉ s.reportQ) } := by
  unfold State.placeReference
  by_cases hr : r ∈ s.reportQ
  · simp [hr]
  · rw [if_neg hr]; simp [hr]; exact State.northJoined_busy (f := f) h

/-- Entries of one address changed one kind after another under a busy North transmitter: the change reaches exactly those
kinds' entries, and the references not held join in that order (R89, R91). The change keeps an entry's pair. -/
theorem State.changeAlarms_busy {change : Time → AlarmEntry → AlarmEntry} {f : Frame} (addr : ChannelAddr)
    (hc : ∀ t e, (change t e).addr = e.addr ∧ (change t e).kind = e.kind) :
    ∀ (kinds : List AlarmKind) (s : State), kinds.Nodup → s.northTx = some f →
      kinds.foldl (fun s kind => s.changeAlarm addr kind (change s.now)) s =
        { s with
          alarms := s.alarms.map (fun e => if e.addr = addr ∧ e.kind ∈ kinds then change s.now e else e)
          reportQ := s.reportQ ++ (kinds.map (Reference.entry addr)).filter (fun r => r ∉ s.reportQ) }
  | [], s, _, _ => by simp
  | k :: kinds, s, hn, hb => by
    obtain ⟨hk, hn⟩ := List.nodup_cons.mp hn
    have h1 : s.changeAlarm addr k (change s.now) =
        { s with
          alarms := changeEntry s.alarms addr k (change s.now)
          reportQ := s.reportQ ++ [Reference.entry addr k].filter (fun r => r ∉ s.reportQ) } :=
      State.placeReference_busy (f := f) _ hb
    rw [List.foldl_cons, h1, State.changeAlarms_busy addr hc kinds _ hn (by exact hb)]
    simp only [changeEntry, List.map_map]
    congr 1
    · refine List.map_congr_left fun e _ => ?_
      by_cases ha : e.addr = addr <;> by_cases hek : e.kind = k <;>
        simp [Function.comp, AlarmEntry.isFor, ha, hek, hk, hc]
    · rw [List.append_assoc]
      congr 1
      by_cases hr : Reference.entry addr k ∈ s.reportQ
      · simp [hr]
      · simp only [hr, not_false_eq_true, decide_true, List.filter_cons_of_pos, List.filter_nil, List.map_cons,
          List.cons_append, List.nil_append, List.mem_append, List.mem_singleton, List.cons.injEq, true_and]
        refine List.filter_congr fun x hx => ?_
        obtain ⟨y, hy, rfl⟩ := List.mem_map.mp hx
        have : y ≠ k := fun h => hk (h ▸ hy)
        simp [this]

end Sys2Proof.Machine
end

