-- ==== Sys2Proof/Laws/State.lean ====
section
/-! SUPPORT. What the plain updates of State leave unchanged, one lemma for each update and field outside it. -/

namespace Sys2Proof.Machine

open Sys2Proof

/-! ### setReceiver -/

@[simp] theorem State.setReceiver_pending (port : Port) (r : Receiver) (s : State) : (State.setReceiver port r s).pending = s.pending := by cases port <;> rfl
@[simp] theorem State.setReceiver_phase (port : Port) (r : Receiver) (s : State) : (State.setReceiver port r s).phase = s.phase := by cases port <;> rfl
@[simp] theorem State.setReceiver_node (port : Port) (r : Receiver) (s : State) : (State.setReceiver port r s).node = s.node := by cases port <;> rfl
@[simp] theorem State.setReceiver_now (port : Port) (r : Receiver) (s : State) : (State.setReceiver port r s).now = s.now := by cases port <;> rfl
@[simp] theorem State.setReceiver_rows (port : Port) (r : Receiver) (s : State) : (State.setReceiver port r s).rows = s.rows := by cases port <;> rfl
@[simp] theorem State.setReceiver_classes (port : Port) (r : Receiver) (s : State) : (State.setReceiver port r s).classes = s.classes := by cases port <;> rfl
@[simp] theorem State.setReceiver_settings (port : Port) (r : Receiver) (s : State) : (State.setReceiver port r s).settings = s.settings := by cases port <;> rfl
@[simp] theorem State.setReceiver_tripLatch (port : Port) (r : Receiver) (s : State) : (State.setReceiver port r s).tripLatch = s.tripLatch := by cases port <;> rfl
@[simp] theorem State.setReceiver_alarms (port : Port) (r : Receiver) (s : State) : (State.setReceiver port r s).alarms = s.alarms := by cases port <;> rfl
@[simp] theorem State.setReceiver_overflow (port : Port) (r : Receiver) (s : State) : (State.setReceiver port r s).overflow = s.overflow := by cases port <;> rfl
@[simp] theorem State.setReceiver_episode (port : Port) (r : Receiver) (s : State) : (State.setReceiver port r s).episode = s.episode := by cases port <;> rfl
@[simp] theorem State.setReceiver_enrol (port : Port) (r : Receiver) (s : State) : (State.setReceiver port r s).enrol = s.enrol := by cases port <;> rfl
@[simp] theorem State.setReceiver_session (port : Port) (r : Receiver) (s : State) : (State.setReceiver port r s).session = s.session := by cases port <;> rfl
@[simp] theorem State.setReceiver_staging (port : Port) (r : Receiver) (s : State) : (State.setReceiver port r s).staging = s.staging := by cases port <;> rfl
@[simp] theorem State.setReceiver_replay (port : Port) (r : Receiver) (s : State) : (State.setReceiver port r s).replay = s.replay := by cases port <;> rfl
@[simp] theorem State.setReceiver_capture (port : Port) (r : Receiver) (s : State) : (State.setReceiver port r s).capture = s.capture := by cases port <;> rfl
@[simp] theorem State.setReceiver_forwardQ (port : Port) (r : Receiver) (s : State) : (State.setReceiver port r s).forwardQ = s.forwardQ := by cases port <;> rfl
@[simp] theorem State.setReceiver_reportQ (port : Port) (r : Receiver) (s : State) : (State.setReceiver port r s).reportQ = s.reportQ := by cases port <;> rfl
@[simp] theorem State.setReceiver_noticeQ (port : Port) (r : Receiver) (s : State) : (State.setReceiver port r s).noticeQ = s.noticeQ := by cases port <;> rfl
@[simp] theorem State.setReceiver_responseQ (port : Port) (r : Receiver) (s : State) : (State.setReceiver port r s).responseQ = s.responseQ := by cases port <;> rfl
@[simp] theorem State.setReceiver_commandQ (port : Port) (r : Receiver) (s : State) : (State.setReceiver port r s).commandQ = s.commandQ := by cases port <;> rfl
@[simp] theorem State.setReceiver_guardCount (port : Port) (r : Receiver) (s : State) : (State.setReceiver port r s).guardCount = s.guardCount := by cases port <;> rfl
@[simp] theorem State.setReceiver_lostNotices (port : Port) (r : Receiver) (s : State) : (State.setReceiver port r s).lostNotices = s.lostNotices := by cases port <;> rfl
@[simp] theorem State.setReceiver_northTx (port : Port) (r : Receiver) (s : State) : (State.setReceiver port r s).northTx = s.northTx := by cases port <;> rfl
@[simp] theorem State.setReceiver_southTx (port : Port) (r : Receiver) (s : State) : (State.setReceiver port r s).southTx = s.southTx := by cases port <;> rfl
@[simp] theorem State.setReceiver_northCounters (port : Port) (r : Receiver) (s : State) : (State.setReceiver port r s).northCounters = s.northCounters := by cases port <;> rfl
@[simp] theorem State.setReceiver_southCounters (port : Port) (r : Receiver) (s : State) : (State.setReceiver port r s).southCounters = s.southCounters := by cases port <;> rfl
@[simp] theorem State.setReceiver_partCounters (port : Port) (r : Receiver) (s : State) : (State.setReceiver port r s).partCounters = s.partCounters := by cases port <;> rfl
@[simp] theorem State.setReceiver_freeReads (port : Port) (r : Receiver) (s : State) : (State.setReceiver port r s).freeReads = s.freeReads := by cases port <;> rfl

/-! ### countPort -/

@[simp] theorem State.countPort_pending (port : Port) (change : PortCounters → PortCounters) (s : State) : (State.countPort port change s).pending = s.pending := by cases port <;> rfl
@[simp] theorem State.countPort_phase (port : Port) (change : PortCounters → PortCounters) (s : State) : (State.countPort port change s).phase = s.phase := by cases port <;> rfl
@[simp] theorem State.countPort_node (port : Port) (change : PortCounters → PortCounters) (s : State) : (State.countPort port change s).node = s.node := by cases port <;> rfl
@[simp] theorem State.countPort_now (port : Port) (change : PortCounters → PortCounters) (s : State) : (State.countPort port change s).now = s.now := by cases port <;> rfl
@[simp] theorem State.countPort_rows (port : Port) (change : PortCounters → PortCounters) (s : State) : (State.countPort port change s).rows = s.rows := by cases port <;> rfl
@[simp] theorem State.countPort_classes (port : Port) (change : PortCounters → PortCounters) (s : State) : (State.countPort port change s).classes = s.classes := by cases port <;> rfl
@[simp] theorem State.countPort_settings (port : Port) (change : PortCounters → PortCounters) (s : State) : (State.countPort port change s).settings = s.settings := by cases port <;> rfl
@[simp] theorem State.countPort_tripLatch (port : Port) (change : PortCounters → PortCounters) (s : State) : (State.countPort port change s).tripLatch = s.tripLatch := by cases port <;> rfl
@[simp] theorem State.countPort_alarms (port : Port) (change : PortCounters → PortCounters) (s : State) : (State.countPort port change s).alarms = s.alarms := by cases port <;> rfl
@[simp] theorem State.countPort_overflow (port : Port) (change : PortCounters → PortCounters) (s : State) : (State.countPort port change s).overflow = s.overflow := by cases port <;> rfl
@[simp] theorem State.countPort_episode (port : Port) (change : PortCounters → PortCounters) (s : State) : (State.countPort port change s).episode = s.episode := by cases port <;> rfl
@[simp] theorem State.countPort_enrol (port : Port) (change : PortCounters → PortCounters) (s : State) : (State.countPort port change s).enrol = s.enrol := by cases port <;> rfl
@[simp] theorem State.countPort_session (port : Port) (change : PortCounters → PortCounters) (s : State) : (State.countPort port change s).session = s.session := by cases port <;> rfl
@[simp] theorem State.countPort_staging (port : Port) (change : PortCounters → PortCounters) (s : State) : (State.countPort port change s).staging = s.staging := by cases port <;> rfl
@[simp] theorem State.countPort_replay (port : Port) (change : PortCounters → PortCounters) (s : State) : (State.countPort port change s).replay = s.replay := by cases port <;> rfl
@[simp] theorem State.countPort_capture (port : Port) (change : PortCounters → PortCounters) (s : State) : (State.countPort port change s).capture = s.capture := by cases port <;> rfl
@[simp] theorem State.countPort_forwardQ (port : Port) (change : PortCounters → PortCounters) (s : State) : (State.countPort port change s).forwardQ = s.forwardQ := by cases port <;> rfl
@[simp] theorem State.countPort_reportQ (port : Port) (change : PortCounters → PortCounters) (s : State) : (State.countPort port change s).reportQ = s.reportQ := by cases port <;> rfl
@[simp] theorem State.countPort_noticeQ (port : Port) (change : PortCounters → PortCounters) (s : State) : (State.countPort port change s).noticeQ = s.noticeQ := by cases port <;> rfl
@[simp] theorem State.countPort_responseQ (port : Port) (change : PortCounters → PortCounters) (s : State) : (State.countPort port change s).responseQ = s.responseQ := by cases port <;> rfl
@[simp] theorem State.countPort_commandQ (port : Port) (change : PortCounters → PortCounters) (s : State) : (State.countPort port change s).commandQ = s.commandQ := by cases port <;> rfl
@[simp] theorem State.countPort_guardCount (port : Port) (change : PortCounters → PortCounters) (s : State) : (State.countPort port change s).guardCount = s.guardCount := by cases port <;> rfl
@[simp] theorem State.countPort_lostNotices (port : Port) (change : PortCounters → PortCounters) (s : State) : (State.countPort port change s).lostNotices = s.lostNotices := by cases port <;> rfl
@[simp] theorem State.countPort_northTx (port : Port) (change : PortCounters → PortCounters) (s : State) : (State.countPort port change s).northTx = s.northTx := by cases port <;> rfl
@[simp] theorem State.countPort_southTx (port : Port) (change : PortCounters → PortCounters) (s : State) : (State.countPort port change s).southTx = s.southTx := by cases port <;> rfl
@[simp] theorem State.countPort_northRx (port : Port) (change : PortCounters → PortCounters) (s : State) : (State.countPort port change s).northRx = s.northRx := by cases port <;> rfl
@[simp] theorem State.countPort_southRx (port : Port) (change : PortCounters → PortCounters) (s : State) : (State.countPort port change s).southRx = s.southRx := by cases port <;> rfl
@[simp] theorem State.countPort_partCounters (port : Port) (change : PortCounters → PortCounters) (s : State) : (State.countPort port change s).partCounters = s.partCounters := by cases port <;> rfl
@[simp] theorem State.countPort_freeReads (port : Port) (change : PortCounters → PortCounters) (s : State) : (State.countPort port change s).freeReads = s.freeReads := by cases port <;> rfl

/-! ### received -/

@[simp] theorem State.received_pending (port : Port) (s : State) : (State.received port s).pending = s.pending := by cases port <;> rfl
@[simp] theorem State.received_phase (port : Port) (s : State) : (State.received port s).phase = s.phase := by cases port <;> rfl
@[simp] theorem State.received_node (port : Port) (s : State) : (State.received port s).node = s.node := by cases port <;> rfl
@[simp] theorem State.received_now (port : Port) (s : State) : (State.received port s).now = s.now := by cases port <;> rfl
@[simp] theorem State.received_rows (port : Port) (s : State) : (State.received port s).rows = s.rows := by cases port <;> rfl
@[simp] theorem State.received_classes (port : Port) (s : State) : (State.received port s).classes = s.classes := by cases port <;> rfl
@[simp] theorem State.received_settings (port : Port) (s : State) : (State.received port s).settings = s.settings := by cases port <;> rfl
@[simp] theorem State.received_tripLatch (port : Port) (s : State) : (State.received port s).tripLatch = s.tripLatch := by cases port <;> rfl
@[simp] theorem State.received_alarms (port : Port) (s : State) : (State.received port s).alarms = s.alarms := by cases port <;> rfl
@[simp] theorem State.received_overflow (port : Port) (s : State) : (State.received port s).overflow = s.overflow := by cases port <;> rfl
@[simp] theorem State.received_episode (port : Port) (s : State) : (State.received port s).episode = s.episode := by cases port <;> rfl
@[simp] theorem State.received_enrol (port : Port) (s : State) : (State.received port s).enrol = s.enrol := by cases port <;> rfl
@[simp] theorem State.received_session (port : Port) (s : State) : (State.received port s).session = s.session := by cases port <;> rfl
@[simp] theorem State.received_staging (port : Port) (s : State) : (State.received port s).staging = s.staging := by cases port <;> rfl
@[simp] theorem State.received_replay (port : Port) (s : State) : (State.received port s).replay = s.replay := by cases port <;> rfl
@[simp] theorem State.received_capture (port : Port) (s : State) : (State.received port s).capture = s.capture := by cases port <;> rfl
@[simp] theorem State.received_forwardQ (port : Port) (s : State) : (State.received port s).forwardQ = s.forwardQ := by cases port <;> rfl
@[simp] theorem State.received_reportQ (port : Port) (s : State) : (State.received port s).reportQ = s.reportQ := by cases port <;> rfl
@[simp] theorem State.received_noticeQ (port : Port) (s : State) : (State.received port s).noticeQ = s.noticeQ := by cases port <;> rfl
@[simp] theorem State.received_responseQ (port : Port) (s : State) : (State.received port s).responseQ = s.responseQ := by cases port <;> rfl
@[simp] theorem State.received_commandQ (port : Port) (s : State) : (State.received port s).commandQ = s.commandQ := by cases port <;> rfl
@[simp] theorem State.received_guardCount (port : Port) (s : State) : (State.received port s).guardCount = s.guardCount := by cases port <;> rfl
@[simp] theorem State.received_lostNotices (port : Port) (s : State) : (State.received port s).lostNotices = s.lostNotices := by cases port <;> rfl
@[simp] theorem State.received_northTx (port : Port) (s : State) : (State.received port s).northTx = s.northTx := by cases port <;> rfl
@[simp] theorem State.received_southTx (port : Port) (s : State) : (State.received port s).southTx = s.southTx := by cases port <;> rfl
@[simp] theorem State.received_partCounters (port : Port) (s : State) : (State.received port s).partCounters = s.partCounters := by cases port <;> rfl
@[simp] theorem State.received_freeReads (port : Port) (s : State) : (State.received port s).freeReads = s.freeReads := by cases port <;> rfl

/-! ### setRecord -/

@[simp] theorem State.setRecord_pending (addr : ChannelAddr) (rt : Runtime) (s : State) : (State.setRecord addr rt s).pending = s.pending := rfl
@[simp] theorem State.setRecord_phase (addr : ChannelAddr) (rt : Runtime) (s : State) : (State.setRecord addr rt s).phase = s.phase := rfl
@[simp] theorem State.setRecord_node (addr : ChannelAddr) (rt : Runtime) (s : State) : (State.setRecord addr rt s).node = s.node := rfl
@[simp] theorem State.setRecord_now (addr : ChannelAddr) (rt : Runtime) (s : State) : (State.setRecord addr rt s).now = s.now := rfl
@[simp] theorem State.setRecord_classes (addr : ChannelAddr) (rt : Runtime) (s : State) : (State.setRecord addr rt s).classes = s.classes := rfl
@[simp] theorem State.setRecord_settings (addr : ChannelAddr) (rt : Runtime) (s : State) : (State.setRecord addr rt s).settings = s.settings := rfl
@[simp] theorem State.setRecord_tripLatch (addr : ChannelAddr) (rt : Runtime) (s : State) : (State.setRecord addr rt s).tripLatch = s.tripLatch := rfl
@[simp] theorem State.setRecord_alarms (addr : ChannelAddr) (rt : Runtime) (s : State) : (State.setRecord addr rt s).alarms = s.alarms := rfl
@[simp] theorem State.setRecord_overflow (addr : ChannelAddr) (rt : Runtime) (s : State) : (State.setRecord addr rt s).overflow = s.overflow := rfl
@[simp] theorem State.setRecord_episode (addr : ChannelAddr) (rt : Runtime) (s : State) : (State.setRecord addr rt s).episode = s.episode := rfl
@[simp] theorem State.setRecord_enrol (addr : ChannelAddr) (rt : Runtime) (s : State) : (State.setRecord addr rt s).enrol = s.enrol := rfl
@[simp] theorem State.setRecord_session (addr : ChannelAddr) (rt : Runtime) (s : State) : (State.setRecord addr rt s).session = s.session := rfl
@[simp] theorem State.setRecord_staging (addr : ChannelAddr) (rt : Runtime) (s : State) : (State.setRecord addr rt s).staging = s.staging := rfl
@[simp] theorem State.setRecord_replay (addr : ChannelAddr) (rt : Runtime) (s : State) : (State.setRecord addr rt s).replay = s.replay := rfl
@[simp] theorem State.setRecord_capture (addr : ChannelAddr) (rt : Runtime) (s : State) : (State.setRecord addr rt s).capture = s.capture := rfl
@[simp] theorem State.setRecord_forwardQ (addr : ChannelAddr) (rt : Runtime) (s : State) : (State.setRecord addr rt s).forwardQ = s.forwardQ := rfl
@[simp] theorem State.setRecord_reportQ (addr : ChannelAddr) (rt : Runtime) (s : State) : (State.setRecord addr rt s).reportQ = s.reportQ := rfl
@[simp] theorem State.setRecord_noticeQ (addr : ChannelAddr) (rt : Runtime) (s : State) : (State.setRecord addr rt s).noticeQ = s.noticeQ := rfl
@[simp] theorem State.setRecord_responseQ (addr : ChannelAddr) (rt : Runtime) (s : State) : (State.setRecord addr rt s).responseQ = s.responseQ := rfl
@[simp] theorem State.setRecord_commandQ (addr : ChannelAddr) (rt : Runtime) (s : State) : (State.setRecord addr rt s).commandQ = s.commandQ := rfl
@[simp] theorem State.setRecord_guardCount (addr : ChannelAddr) (rt : Runtime) (s : State) : (State.setRecord addr rt s).guardCount = s.guardCount := rfl
@[simp] theorem State.setRecord_lostNotices (addr : ChannelAddr) (rt : Runtime) (s : State) : (State.setRecord addr rt s).lostNotices = s.lostNotices := rfl
@[simp] theorem State.setRecord_northTx (addr : ChannelAddr) (rt : Runtime) (s : State) : (State.setRecord addr rt s).northTx = s.northTx := rfl
@[simp] theorem State.setRecord_southTx (addr : ChannelAddr) (rt : Runtime) (s : State) : (State.setRecord addr rt s).southTx = s.southTx := rfl
@[simp] theorem State.setRecord_northRx (addr : ChannelAddr) (rt : Runtime) (s : State) : (State.setRecord addr rt s).northRx = s.northRx := rfl
@[simp] theorem State.setRecord_southRx (addr : ChannelAddr) (rt : Runtime) (s : State) : (State.setRecord addr rt s).southRx = s.southRx := rfl
@[simp] theorem State.setRecord_northCounters (addr : ChannelAddr) (rt : Runtime) (s : State) : (State.setRecord addr rt s).northCounters = s.northCounters := rfl
@[simp] theorem State.setRecord_southCounters (addr : ChannelAddr) (rt : Runtime) (s : State) : (State.setRecord addr rt s).southCounters = s.southCounters := rfl
@[simp] theorem State.setRecord_partCounters (addr : ChannelAddr) (rt : Runtime) (s : State) : (State.setRecord addr rt s).partCounters = s.partCounters := rfl
@[simp] theorem State.setRecord_freeReads (addr : ChannelAddr) (rt : Runtime) (s : State) : (State.setRecord addr rt s).freeReads = s.freeReads := rfl

/-! ### endSession -/

@[simp] theorem State.endSession_pending (s : State) : (State.endSession s).pending = s.pending := rfl
@[simp] theorem State.endSession_phase (s : State) : (State.endSession s).phase = s.phase := rfl
@[simp] theorem State.endSession_node (s : State) : (State.endSession s).node = s.node := rfl
@[simp] theorem State.endSession_now (s : State) : (State.endSession s).now = s.now := rfl
@[simp] theorem State.endSession_rows (s : State) : (State.endSession s).rows = s.rows := rfl
@[simp] theorem State.endSession_classes (s : State) : (State.endSession s).classes = s.classes := rfl
@[simp] theorem State.endSession_settings (s : State) : (State.endSession s).settings = s.settings := rfl
@[simp] theorem State.endSession_tripLatch (s : State) : (State.endSession s).tripLatch = s.tripLatch := rfl
@[simp] theorem State.endSession_alarms (s : State) : (State.endSession s).alarms = s.alarms := rfl
@[simp] theorem State.endSession_overflow (s : State) : (State.endSession s).overflow = s.overflow := rfl
@[simp] theorem State.endSession_episode (s : State) : (State.endSession s).episode = s.episode := rfl
@[simp] theorem State.endSession_enrol (s : State) : (State.endSession s).enrol = s.enrol := rfl
@[simp] theorem State.endSession_capture (s : State) : (State.endSession s).capture = s.capture := rfl
@[simp] theorem State.endSession_forwardQ (s : State) : (State.endSession s).forwardQ = s.forwardQ := rfl
@[simp] theorem State.endSession_reportQ (s : State) : (State.endSession s).reportQ = s.reportQ := rfl
@[simp] theorem State.endSession_noticeQ (s : State) : (State.endSession s).noticeQ = s.noticeQ := rfl
@[simp] theorem State.endSession_responseQ (s : State) : (State.endSession s).responseQ = s.responseQ := rfl
@[simp] theorem State.endSession_commandQ (s : State) : (State.endSession s).commandQ = s.commandQ := rfl
@[simp] theorem State.endSession_guardCount (s : State) : (State.endSession s).guardCount = s.guardCount := rfl
@[simp] theorem State.endSession_lostNotices (s : State) : (State.endSession s).lostNotices = s.lostNotices := rfl
@[simp] theorem State.endSession_northTx (s : State) : (State.endSession s).northTx = s.northTx := rfl
@[simp] theorem State.endSession_southTx (s : State) : (State.endSession s).southTx = s.southTx := rfl
@[simp] theorem State.endSession_northRx (s : State) : (State.endSession s).northRx = s.northRx := rfl
@[simp] theorem State.endSession_southRx (s : State) : (State.endSession s).southRx = s.southRx := rfl
@[simp] theorem State.endSession_northCounters (s : State) : (State.endSession s).northCounters = s.northCounters := rfl
@[simp] theorem State.endSession_southCounters (s : State) : (State.endSession s).southCounters = s.southCounters := rfl
@[simp] theorem State.endSession_partCounters (s : State) : (State.endSession s).partCounters = s.partCounters := rfl
@[simp] theorem State.endSession_freeReads (s : State) : (State.endSession s).freeReads = s.freeReads := rfl

/-! ### countForwardDrop -/

@[simp] theorem State.countForwardDrop_pending (s : State) : (State.countForwardDrop s).pending = s.pending := rfl
@[simp] theorem State.countForwardDrop_phase (s : State) : (State.countForwardDrop s).phase = s.phase := rfl
@[simp] theorem State.countForwardDrop_node (s : State) : (State.countForwardDrop s).node = s.node := rfl
@[simp] theorem State.countForwardDrop_now (s : State) : (State.countForwardDrop s).now = s.now := rfl
@[simp] theorem State.countForwardDrop_rows (s : State) : (State.countForwardDrop s).rows = s.rows := rfl
@[simp] theorem State.countForwardDrop_classes (s : State) : (State.countForwardDrop s).classes = s.classes := rfl
@[simp] theorem State.countForwardDrop_settings (s : State) : (State.countForwardDrop s).settings = s.settings := rfl
@[simp] theorem State.countForwardDrop_tripLatch (s : State) : (State.countForwardDrop s).tripLatch = s.tripLatch := rfl
@[simp] theorem State.countForwardDrop_alarms (s : State) : (State.countForwardDrop s).alarms = s.alarms := rfl
@[simp] theorem State.countForwardDrop_overflow (s : State) : (State.countForwardDrop s).overflow = s.overflow := rfl
@[simp] theorem State.countForwardDrop_episode (s : State) : (State.countForwardDrop s).episode = s.episode := rfl
@[simp] theorem State.countForwardDrop_enrol (s : State) : (State.countForwardDrop s).enrol = s.enrol := rfl
@[simp] theorem State.countForwardDrop_session (s : State) : (State.countForwardDrop s).session = s.session := rfl
@[simp] theorem State.countForwardDrop_staging (s : State) : (State.countForwardDrop s).staging = s.staging := rfl
@[simp] theorem State.countForwardDrop_replay (s : State) : (State.countForwardDrop s).replay = s.replay := rfl
@[simp] theorem State.countForwardDrop_capture (s : State) : (State.countForwardDrop s).capture = s.capture := rfl
@[simp] theorem State.countForwardDrop_forwardQ (s : State) : (State.countForwardDrop s).forwardQ = s.forwardQ := rfl
@[simp] theorem State.countForwardDrop_reportQ (s : State) : (State.countForwardDrop s).reportQ = s.reportQ := rfl
@[simp] theorem State.countForwardDrop_noticeQ (s : State) : (State.countForwardDrop s).noticeQ = s.noticeQ := rfl
@[simp] theorem State.countForwardDrop_responseQ (s : State) : (State.countForwardDrop s).responseQ = s.responseQ := rfl
@[simp] theorem State.countForwardDrop_commandQ (s : State) : (State.countForwardDrop s).commandQ = s.commandQ := rfl
@[simp] theorem State.countForwardDrop_guardCount (s : State) : (State.countForwardDrop s).guardCount = s.guardCount := rfl
@[simp] theorem State.countForwardDrop_lostNotices (s : State) : (State.countForwardDrop s).lostNotices = s.lostNotices := rfl
@[simp] theorem State.countForwardDrop_northTx (s : State) : (State.countForwardDrop s).northTx = s.northTx := rfl
@[simp] theorem State.countForwardDrop_southTx (s : State) : (State.countForwardDrop s).southTx = s.southTx := rfl
@[simp] theorem State.countForwardDrop_northRx (s : State) : (State.countForwardDrop s).northRx = s.northRx := rfl
@[simp] theorem State.countForwardDrop_southRx (s : State) : (State.countForwardDrop s).southRx = s.southRx := rfl
@[simp] theorem State.countForwardDrop_northCounters (s : State) : (State.countForwardDrop s).northCounters = s.northCounters := rfl
@[simp] theorem State.countForwardDrop_southCounters (s : State) : (State.countForwardDrop s).southCounters = s.southCounters := rfl
@[simp] theorem State.countForwardDrop_freeReads (s : State) : (State.countForwardDrop s).freeReads = s.freeReads := rfl

/-! ### incrementTime -/

@[simp] theorem State.incrementTime_pending (s : State) : (State.incrementTime s).pending = s.pending := rfl
@[simp] theorem State.incrementTime_phase (s : State) : (State.incrementTime s).phase = s.phase := rfl
@[simp] theorem State.incrementTime_node (s : State) : (State.incrementTime s).node = s.node := rfl
@[simp] theorem State.incrementTime_rows (s : State) : (State.incrementTime s).rows = s.rows := rfl
@[simp] theorem State.incrementTime_classes (s : State) : (State.incrementTime s).classes = s.classes := rfl
@[simp] theorem State.incrementTime_settings (s : State) : (State.incrementTime s).settings = s.settings := rfl
@[simp] theorem State.incrementTime_tripLatch (s : State) : (State.incrementTime s).tripLatch = s.tripLatch := rfl
@[simp] theorem State.incrementTime_alarms (s : State) : (State.incrementTime s).alarms = s.alarms := rfl
@[simp] theorem State.incrementTime_overflow (s : State) : (State.incrementTime s).overflow = s.overflow := rfl
@[simp] theorem State.incrementTime_episode (s : State) : (State.incrementTime s).episode = s.episode := rfl
@[simp] theorem State.incrementTime_enrol (s : State) : (State.incrementTime s).enrol = s.enrol := rfl
@[simp] theorem State.incrementTime_session (s : State) : (State.incrementTime s).session = s.session := rfl
@[simp] theorem State.incrementTime_staging (s : State) : (State.incrementTime s).staging = s.staging := rfl
@[simp] theorem State.incrementTime_replay (s : State) : (State.incrementTime s).replay = s.replay := rfl
@[simp] theorem State.incrementTime_capture (s : State) : (State.incrementTime s).capture = s.capture := rfl
@[simp] theorem State.incrementTime_forwardQ (s : State) : (State.incrementTime s).forwardQ = s.forwardQ := rfl
@[simp] theorem State.incrementTime_reportQ (s : State) : (State.incrementTime s).reportQ = s.reportQ := rfl
@[simp] theorem State.incrementTime_noticeQ (s : State) : (State.incrementTime s).noticeQ = s.noticeQ := rfl
@[simp] theorem State.incrementTime_responseQ (s : State) : (State.incrementTime s).responseQ = s.responseQ := rfl
@[simp] theorem State.incrementTime_commandQ (s : State) : (State.incrementTime s).commandQ = s.commandQ := rfl
@[simp] theorem State.incrementTime_guardCount (s : State) : (State.incrementTime s).guardCount = s.guardCount := rfl
@[simp] theorem State.incrementTime_lostNotices (s : State) : (State.incrementTime s).lostNotices = s.lostNotices := rfl
@[simp] theorem State.incrementTime_northTx (s : State) : (State.incrementTime s).northTx = s.northTx := rfl
@[simp] theorem State.incrementTime_southTx (s : State) : (State.incrementTime s).southTx = s.southTx := rfl
@[simp] theorem State.incrementTime_northRx (s : State) : (State.incrementTime s).northRx = s.northRx := rfl
@[simp] theorem State.incrementTime_southRx (s : State) : (State.incrementTime s).southRx = s.southRx := rfl
@[simp] theorem State.incrementTime_northCounters (s : State) : (State.incrementTime s).northCounters = s.northCounters := rfl
@[simp] theorem State.incrementTime_southCounters (s : State) : (State.incrementTime s).southCounters = s.southCounters := rfl
@[simp] theorem State.incrementTime_partCounters (s : State) : (State.incrementTime s).partCounters = s.partCounters := rfl
@[simp] theorem State.incrementTime_freeReads (s : State) : (State.incrementTime s).freeReads = s.freeReads := rfl

/-! ### insertConfig -/

@[simp] theorem State.insertConfig_pending (c : RowConfig) (s : State) : (State.insertConfig c s).pending = s.pending := rfl
@[simp] theorem State.insertConfig_phase (c : RowConfig) (s : State) : (State.insertConfig c s).phase = s.phase := rfl
@[simp] theorem State.insertConfig_node (c : RowConfig) (s : State) : (State.insertConfig c s).node = s.node := rfl
@[simp] theorem State.insertConfig_now (c : RowConfig) (s : State) : (State.insertConfig c s).now = s.now := rfl
@[simp] theorem State.insertConfig_classes (c : RowConfig) (s : State) : (State.insertConfig c s).classes = s.classes := rfl
@[simp] theorem State.insertConfig_settings (c : RowConfig) (s : State) : (State.insertConfig c s).settings = s.settings := rfl
@[simp] theorem State.insertConfig_tripLatch (c : RowConfig) (s : State) : (State.insertConfig c s).tripLatch = s.tripLatch := rfl
@[simp] theorem State.insertConfig_alarms (c : RowConfig) (s : State) : (State.insertConfig c s).alarms = s.alarms := rfl
@[simp] theorem State.insertConfig_overflow (c : RowConfig) (s : State) : (State.insertConfig c s).overflow = s.overflow := rfl
@[simp] theorem State.insertConfig_episode (c : RowConfig) (s : State) : (State.insertConfig c s).episode = s.episode := rfl
@[simp] theorem State.insertConfig_session (c : RowConfig) (s : State) : (State.insertConfig c s).session = s.session := rfl
@[simp] theorem State.insertConfig_staging (c : RowConfig) (s : State) : (State.insertConfig c s).staging = s.staging := rfl
@[simp] theorem State.insertConfig_replay (c : RowConfig) (s : State) : (State.insertConfig c s).replay = s.replay := rfl
@[simp] theorem State.insertConfig_capture (c : RowConfig) (s : State) : (State.insertConfig c s).capture = s.capture := rfl
@[simp] theorem State.insertConfig_forwardQ (c : RowConfig) (s : State) : (State.insertConfig c s).forwardQ = s.forwardQ := rfl
@[simp] theorem State.insertConfig_reportQ (c : RowConfig) (s : State) : (State.insertConfig c s).reportQ = s.reportQ := rfl
@[simp] theorem State.insertConfig_noticeQ (c : RowConfig) (s : State) : (State.insertConfig c s).noticeQ = s.noticeQ := rfl
@[simp] theorem State.insertConfig_responseQ (c : RowConfig) (s : State) : (State.insertConfig c s).responseQ = s.responseQ := rfl
@[simp] theorem State.insertConfig_commandQ (c : RowConfig) (s : State) : (State.insertConfig c s).commandQ = s.commandQ := rfl
@[simp] theorem State.insertConfig_guardCount (c : RowConfig) (s : State) : (State.insertConfig c s).guardCount = s.guardCount := rfl
@[simp] theorem State.insertConfig_lostNotices (c : RowConfig) (s : State) : (State.insertConfig c s).lostNotices = s.lostNotices := rfl
@[simp] theorem State.insertConfig_northTx (c : RowConfig) (s : State) : (State.insertConfig c s).northTx = s.northTx := rfl
@[simp] theorem State.insertConfig_southTx (c : RowConfig) (s : State) : (State.insertConfig c s).southTx = s.southTx := rfl
@[simp] theorem State.insertConfig_northRx (c : RowConfig) (s : State) : (State.insertConfig c s).northRx = s.northRx := rfl
@[simp] theorem State.insertConfig_southRx (c : RowConfig) (s : State) : (State.insertConfig c s).southRx = s.southRx := rfl
@[simp] theorem State.insertConfig_northCounters (c : RowConfig) (s : State) : (State.insertConfig c s).northCounters = s.northCounters := rfl
@[simp] theorem State.insertConfig_southCounters (c : RowConfig) (s : State) : (State.insertConfig c s).southCounters = s.southCounters := rfl
@[simp] theorem State.insertConfig_partCounters (c : RowConfig) (s : State) : (State.insertConfig c s).partCounters = s.partCounters := rfl
@[simp] theorem State.insertConfig_freeReads (c : RowConfig) (s : State) : (State.insertConfig c s).freeReads = s.freeReads := rfl

/-! ### renewLease -/

@[simp] theorem State.renewLease_pending (source : NodeAddr) (s : State) : (State.renewLease source s).pending = s.pending := by unfold State.renewLease; split <;> [split; skip] <;> rfl
@[simp] theorem State.renewLease_phase (source : NodeAddr) (s : State) : (State.renewLease source s).phase = s.phase := by unfold State.renewLease; split <;> [split; skip] <;> rfl
@[simp] theorem State.renewLease_node (source : NodeAddr) (s : State) : (State.renewLease source s).node = s.node := by unfold State.renewLease; split <;> [split; skip] <;> rfl
@[simp] theorem State.renewLease_now (source : NodeAddr) (s : State) : (State.renewLease source s).now = s.now := by unfold State.renewLease; split <;> [split; skip] <;> rfl
@[simp] theorem State.renewLease_rows (source : NodeAddr) (s : State) : (State.renewLease source s).rows = s.rows := by unfold State.renewLease; split <;> [split; skip] <;> rfl
@[simp] theorem State.renewLease_classes (source : NodeAddr) (s : State) : (State.renewLease source s).classes = s.classes := by unfold State.renewLease; split <;> [split; skip] <;> rfl
@[simp] theorem State.renewLease_settings (source : NodeAddr) (s : State) : (State.renewLease source s).settings = s.settings := by unfold State.renewLease; split <;> [split; skip] <;> rfl
@[simp] theorem State.renewLease_tripLatch (source : NodeAddr) (s : State) : (State.renewLease source s).tripLatch = s.tripLatch := by unfold State.renewLease; split <;> [split; skip] <;> rfl
@[simp] theorem State.renewLease_alarms (source : NodeAddr) (s : State) : (State.renewLease source s).alarms = s.alarms := by unfold State.renewLease; split <;> [split; skip] <;> rfl
@[simp] theorem State.renewLease_overflow (source : NodeAddr) (s : State) : (State.renewLease source s).overflow = s.overflow := by unfold State.renewLease; split <;> [split; skip] <;> rfl
@[simp] theorem State.renewLease_episode (source : NodeAddr) (s : State) : (State.renewLease source s).episode = s.episode := by unfold State.renewLease; split <;> [split; skip] <;> rfl
@[simp] theorem State.renewLease_enrol (source : NodeAddr) (s : State) : (State.renewLease source s).enrol = s.enrol := by unfold State.renewLease; split <;> [split; skip] <;> rfl
@[simp] theorem State.renewLease_staging (source : NodeAddr) (s : State) : (State.renewLease source s).staging = s.staging := by unfold State.renewLease; split <;> [split; skip] <;> rfl
@[simp] theorem State.renewLease_replay (source : NodeAddr) (s : State) : (State.renewLease source s).replay = s.replay := by unfold State.renewLease; split <;> [split; skip] <;> rfl
@[simp] theorem State.renewLease_capture (source : NodeAddr) (s : State) : (State.renewLease source s).capture = s.capture := by unfold State.renewLease; split <;> [split; skip] <;> rfl
@[simp] theorem State.renewLease_forwardQ (source : NodeAddr) (s : State) : (State.renewLease source s).forwardQ = s.forwardQ := by unfold State.renewLease; split <;> [split; skip] <;> rfl
@[simp] theorem State.renewLease_reportQ (source : NodeAddr) (s : State) : (State.renewLease source s).reportQ = s.reportQ := by unfold State.renewLease; split <;> [split; skip] <;> rfl
@[simp] theorem State.renewLease_noticeQ (source : NodeAddr) (s : State) : (State.renewLease source s).noticeQ = s.noticeQ := by unfold State.renewLease; split <;> [split; skip] <;> rfl
@[simp] theorem State.renewLease_responseQ (source : NodeAddr) (s : State) : (State.renewLease source s).responseQ = s.responseQ := by unfold State.renewLease; split <;> [split; skip] <;> rfl
@[simp] theorem State.renewLease_commandQ (source : NodeAddr) (s : State) : (State.renewLease source s).commandQ = s.commandQ := by unfold State.renewLease; split <;> [split; skip] <;> rfl
@[simp] theorem State.renewLease_guardCount (source : NodeAddr) (s : State) : (State.renewLease source s).guardCount = s.guardCount := by unfold State.renewLease; split <;> [split; skip] <;> rfl
@[simp] theorem State.renewLease_lostNotices (source : NodeAddr) (s : State) : (State.renewLease source s).lostNotices = s.lostNotices := by unfold State.renewLease; split <;> [split; skip] <;> rfl
@[simp] theorem State.renewLease_northTx (source : NodeAddr) (s : State) : (State.renewLease source s).northTx = s.northTx := by unfold State.renewLease; split <;> [split; skip] <;> rfl
@[simp] theorem State.renewLease_southTx (source : NodeAddr) (s : State) : (State.renewLease source s).southTx = s.southTx := by unfold State.renewLease; split <;> [split; skip] <;> rfl
@[simp] theorem State.renewLease_northRx (source : NodeAddr) (s : State) : (State.renewLease source s).northRx = s.northRx := by unfold State.renewLease; split <;> [split; skip] <;> rfl
@[simp] theorem State.renewLease_southRx (source : NodeAddr) (s : State) : (State.renewLease source s).southRx = s.southRx := by unfold State.renewLease; split <;> [split; skip] <;> rfl
@[simp] theorem State.renewLease_northCounters (source : NodeAddr) (s : State) : (State.renewLease source s).northCounters = s.northCounters := by unfold State.renewLease; split <;> [split; skip] <;> rfl
@[simp] theorem State.renewLease_southCounters (source : NodeAddr) (s : State) : (State.renewLease source s).southCounters = s.southCounters := by unfold State.renewLease; split <;> [split; skip] <;> rfl
@[simp] theorem State.renewLease_partCounters (source : NodeAddr) (s : State) : (State.renewLease source s).partCounters = s.partCounters := by unfold State.renewLease; split <;> [split; skip] <;> rfl
@[simp] theorem State.renewLease_freeReads (source : NodeAddr) (s : State) : (State.renewLease source s).freeReads = s.freeReads := by unfold State.renewLease; split <;> [split; skip] <;> rfl

/-! ### fillReplay -/

@[simp] theorem State.fillReplay_pending (source : NodeAddr) (r : Response) (s : State) : (State.fillReplay source r s).pending = s.pending := by unfold State.fillReplay; split <;> rfl
@[simp] theorem State.fillReplay_phase (source : NodeAddr) (r : Response) (s : State) : (State.fillReplay source r s).phase = s.phase := by unfold State.fillReplay; split <;> rfl
@[simp] theorem State.fillReplay_node (source : NodeAddr) (r : Response) (s : State) : (State.fillReplay source r s).node = s.node := by unfold State.fillReplay; split <;> rfl
@[simp] theorem State.fillReplay_now (source : NodeAddr) (r : Response) (s : State) : (State.fillReplay source r s).now = s.now := by unfold State.fillReplay; split <;> rfl
@[simp] theorem State.fillReplay_rows (source : NodeAddr) (r : Response) (s : State) : (State.fillReplay source r s).rows = s.rows := by unfold State.fillReplay; split <;> rfl
@[simp] theorem State.fillReplay_classes (source : NodeAddr) (r : Response) (s : State) : (State.fillReplay source r s).classes = s.classes := by unfold State.fillReplay; split <;> rfl
@[simp] theorem State.fillReplay_settings (source : NodeAddr) (r : Response) (s : State) : (State.fillReplay source r s).settings = s.settings := by unfold State.fillReplay; split <;> rfl
@[simp] theorem State.fillReplay_tripLatch (source : NodeAddr) (r : Response) (s : State) : (State.fillReplay source r s).tripLatch = s.tripLatch := by unfold State.fillReplay; split <;> rfl
@[simp] theorem State.fillReplay_alarms (source : NodeAddr) (r : Response) (s : State) : (State.fillReplay source r s).alarms = s.alarms := by unfold State.fillReplay; split <;> rfl
@[simp] theorem State.fillReplay_overflow (source : NodeAddr) (r : Response) (s : State) : (State.fillReplay source r s).overflow = s.overflow := by unfold State.fillReplay; split <;> rfl
@[simp] theorem State.fillReplay_episode (source : NodeAddr) (r : Response) (s : State) : (State.fillReplay source r s).episode = s.episode := by unfold State.fillReplay; split <;> rfl
@[simp] theorem State.fillReplay_enrol (source : NodeAddr) (r : Response) (s : State) : (State.fillReplay source r s).enrol = s.enrol := by unfold State.fillReplay; split <;> rfl
@[simp] theorem State.fillReplay_session (source : NodeAddr) (r : Response) (s : State) : (State.fillReplay source r s).session = s.session := by unfold State.fillReplay; split <;> rfl
@[simp] theorem State.fillReplay_staging (source : NodeAddr) (r : Response) (s : State) : (State.fillReplay source r s).staging = s.staging := by unfold State.fillReplay; split <;> rfl
@[simp] theorem State.fillReplay_capture (source : NodeAddr) (r : Response) (s : State) : (State.fillReplay source r s).capture = s.capture := by unfold State.fillReplay; split <;> rfl
@[simp] theorem State.fillReplay_forwardQ (source : NodeAddr) (r : Response) (s : State) : (State.fillReplay source r s).forwardQ = s.forwardQ := by unfold State.fillReplay; split <;> rfl
@[simp] theorem State.fillReplay_reportQ (source : NodeAddr) (r : Response) (s : State) : (State.fillReplay source r s).reportQ = s.reportQ := by unfold State.fillReplay; split <;> rfl
@[simp] theorem State.fillReplay_noticeQ (source : NodeAddr) (r : Response) (s : State) : (State.fillReplay source r s).noticeQ = s.noticeQ := by unfold State.fillReplay; split <;> rfl
@[simp] theorem State.fillReplay_responseQ (source : NodeAddr) (r : Response) (s : State) : (State.fillReplay source r s).responseQ = s.responseQ := by unfold State.fillReplay; split <;> rfl
@[simp] theorem State.fillReplay_commandQ (source : NodeAddr) (r : Response) (s : State) : (State.fillReplay source r s).commandQ = s.commandQ := by unfold State.fillReplay; split <;> rfl
@[simp] theorem State.fillReplay_guardCount (source : NodeAddr) (r : Response) (s : State) : (State.fillReplay source r s).guardCount = s.guardCount := by unfold State.fillReplay; split <;> rfl
@[simp] theorem State.fillReplay_lostNotices (source : NodeAddr) (r : Response) (s : State) : (State.fillReplay source r s).lostNotices = s.lostNotices := by unfold State.fillReplay; split <;> rfl
@[simp] theorem State.fillReplay_northTx (source : NodeAddr) (r : Response) (s : State) : (State.fillReplay source r s).northTx = s.northTx := by unfold State.fillReplay; split <;> rfl
@[simp] theorem State.fillReplay_southTx (source : NodeAddr) (r : Response) (s : State) : (State.fillReplay source r s).southTx = s.southTx := by unfold State.fillReplay; split <;> rfl
@[simp] theorem State.fillReplay_northRx (source : NodeAddr) (r : Response) (s : State) : (State.fillReplay source r s).northRx = s.northRx := by unfold State.fillReplay; split <;> rfl
@[simp] theorem State.fillReplay_southRx (source : NodeAddr) (r : Response) (s : State) : (State.fillReplay source r s).southRx = s.southRx := by unfold State.fillReplay; split <;> rfl
@[simp] theorem State.fillReplay_northCounters (source : NodeAddr) (r : Response) (s : State) : (State.fillReplay source r s).northCounters = s.northCounters := by unfold State.fillReplay; split <;> rfl
@[simp] theorem State.fillReplay_southCounters (source : NodeAddr) (r : Response) (s : State) : (State.fillReplay source r s).southCounters = s.southCounters := by unfold State.fillReplay; split <;> rfl
@[simp] theorem State.fillReplay_partCounters (source : NodeAddr) (r : Response) (s : State) : (State.fillReplay source r s).partCounters = s.partCounters := by unfold State.fillReplay; split <;> rfl
@[simp] theorem State.fillReplay_freeReads (source : NodeAddr) (r : Response) (s : State) : (State.fillReplay source r s).freeReads = s.freeReads := by unfold State.fillReplay; split <;> rfl

/-! ### takeRaiseNotice -/

@[simp] theorem State.takeRaiseNotice_pending (addr : ChannelAddr) (time : Time) (s : State) : (State.takeRaiseNotice addr time s).pending = s.pending := by unfold State.takeRaiseNotice; split <;> rfl
@[simp] theorem State.takeRaiseNotice_phase (addr : ChannelAddr) (time : Time) (s : State) : (State.takeRaiseNotice addr time s).phase = s.phase := by unfold State.takeRaiseNotice; split <;> rfl
@[simp] theorem State.takeRaiseNotice_node (addr : ChannelAddr) (time : Time) (s : State) : (State.takeRaiseNotice addr time s).node = s.node := by unfold State.takeRaiseNotice; split <;> rfl
@[simp] theorem State.takeRaiseNotice_now (addr : ChannelAddr) (time : Time) (s : State) : (State.takeRaiseNotice addr time s).now = s.now := by unfold State.takeRaiseNotice; split <;> rfl
@[simp] theorem State.takeRaiseNotice_rows (addr : ChannelAddr) (time : Time) (s : State) : (State.takeRaiseNotice addr time s).rows = s.rows := by unfold State.takeRaiseNotice; split <;> rfl
@[simp] theorem State.takeRaiseNotice_classes (addr : ChannelAddr) (time : Time) (s : State) : (State.takeRaiseNotice addr time s).classes = s.classes := by unfold State.takeRaiseNotice; split <;> rfl
@[simp] theorem State.takeRaiseNotice_settings (addr : ChannelAddr) (time : Time) (s : State) : (State.takeRaiseNotice addr time s).settings = s.settings := by unfold State.takeRaiseNotice; split <;> rfl
@[simp] theorem State.takeRaiseNotice_tripLatch (addr : ChannelAddr) (time : Time) (s : State) : (State.takeRaiseNotice addr time s).tripLatch = s.tripLatch := by unfold State.takeRaiseNotice; split <;> rfl
@[simp] theorem State.takeRaiseNotice_alarms (addr : ChannelAddr) (time : Time) (s : State) : (State.takeRaiseNotice addr time s).alarms = s.alarms := by unfold State.takeRaiseNotice; split <;> rfl
@[simp] theorem State.takeRaiseNotice_overflow (addr : ChannelAddr) (time : Time) (s : State) : (State.takeRaiseNotice addr time s).overflow = s.overflow := by unfold State.takeRaiseNotice; split <;> rfl
@[simp] theorem State.takeRaiseNotice_episode (addr : ChannelAddr) (time : Time) (s : State) : (State.takeRaiseNotice addr time s).episode = s.episode := by unfold State.takeRaiseNotice; split <;> rfl
@[simp] theorem State.takeRaiseNotice_enrol (addr : ChannelAddr) (time : Time) (s : State) : (State.takeRaiseNotice addr time s).enrol = s.enrol := by unfold State.takeRaiseNotice; split <;> rfl
@[simp] theorem State.takeRaiseNotice_session (addr : ChannelAddr) (time : Time) (s : State) : (State.takeRaiseNotice addr time s).session = s.session := by unfold State.takeRaiseNotice; split <;> rfl
@[simp] theorem State.takeRaiseNotice_staging (addr : ChannelAddr) (time : Time) (s : State) : (State.takeRaiseNotice addr time s).staging = s.staging := by unfold State.takeRaiseNotice; split <;> rfl
@[simp] theorem State.takeRaiseNotice_replay (addr : ChannelAddr) (time : Time) (s : State) : (State.takeRaiseNotice addr time s).replay = s.replay := by unfold State.takeRaiseNotice; split <;> rfl
@[simp] theorem State.takeRaiseNotice_forwardQ (addr : ChannelAddr) (time : Time) (s : State) : (State.takeRaiseNotice addr time s).forwardQ = s.forwardQ := by unfold State.takeRaiseNotice; split <;> rfl
@[simp] theorem State.takeRaiseNotice_reportQ (addr : ChannelAddr) (time : Time) (s : State) : (State.takeRaiseNotice addr time s).reportQ = s.reportQ := by unfold State.takeRaiseNotice; split <;> rfl
@[simp] theorem State.takeRaiseNotice_noticeQ (addr : ChannelAddr) (time : Time) (s : State) : (State.takeRaiseNotice addr time s).noticeQ = s.noticeQ := by unfold State.takeRaiseNotice; split <;> rfl
@[simp] theorem State.takeRaiseNotice_responseQ (addr : ChannelAddr) (time : Time) (s : State) : (State.takeRaiseNotice addr time s).responseQ = s.responseQ := by unfold State.takeRaiseNotice; split <;> rfl
@[simp] theorem State.takeRaiseNotice_commandQ (addr : ChannelAddr) (time : Time) (s : State) : (State.takeRaiseNotice addr time s).commandQ = s.commandQ := by unfold State.takeRaiseNotice; split <;> rfl
@[simp] theorem State.takeRaiseNotice_guardCount (addr : ChannelAddr) (time : Time) (s : State) : (State.takeRaiseNotice addr time s).guardCount = s.guardCount := by unfold State.takeRaiseNotice; split <;> rfl
@[simp] theorem State.takeRaiseNotice_lostNotices (addr : ChannelAddr) (time : Time) (s : State) : (State.takeRaiseNotice addr time s).lostNotices = s.lostNotices := by unfold State.takeRaiseNotice; split <;> rfl
@[simp] theorem State.takeRaiseNotice_northTx (addr : ChannelAddr) (time : Time) (s : State) : (State.takeRaiseNotice addr time s).northTx = s.northTx := by unfold State.takeRaiseNotice; split <;> rfl
@[simp] theorem State.takeRaiseNotice_southTx (addr : ChannelAddr) (time : Time) (s : State) : (State.takeRaiseNotice addr time s).southTx = s.southTx := by unfold State.takeRaiseNotice; split <;> rfl
@[simp] theorem State.takeRaiseNotice_northRx (addr : ChannelAddr) (time : Time) (s : State) : (State.takeRaiseNotice addr time s).northRx = s.northRx := by unfold State.takeRaiseNotice; split <;> rfl
@[simp] theorem State.takeRaiseNotice_southRx (addr : ChannelAddr) (time : Time) (s : State) : (State.takeRaiseNotice addr time s).southRx = s.southRx := by unfold State.takeRaiseNotice; split <;> rfl
@[simp] theorem State.takeRaiseNotice_northCounters (addr : ChannelAddr) (time : Time) (s : State) : (State.takeRaiseNotice addr time s).northCounters = s.northCounters := by unfold State.takeRaiseNotice; split <;> rfl
@[simp] theorem State.takeRaiseNotice_southCounters (addr : ChannelAddr) (time : Time) (s : State) : (State.takeRaiseNotice addr time s).southCounters = s.southCounters := by unfold State.takeRaiseNotice; split <;> rfl
@[simp] theorem State.takeRaiseNotice_partCounters (addr : ChannelAddr) (time : Time) (s : State) : (State.takeRaiseNotice addr time s).partCounters = s.partCounters := by unfold State.takeRaiseNotice; split <;> rfl
@[simp] theorem State.takeRaiseNotice_freeReads (addr : ChannelAddr) (time : Time) (s : State) : (State.takeRaiseNotice addr time s).freeReads = s.freeReads := by unfold State.takeRaiseNotice; split <;> rfl

/-! ### taken -/

@[simp] theorem State.taken_pending (h : ReqHeader) (s : State) : (State.taken h s).pending = s.pending := by simp [State.taken]
@[simp] theorem State.taken_phase (h : ReqHeader) (s : State) : (State.taken h s).phase = s.phase := by simp [State.taken]
@[simp] theorem State.taken_node (h : ReqHeader) (s : State) : (State.taken h s).node = s.node := by simp [State.taken]
@[simp] theorem State.taken_now (h : ReqHeader) (s : State) : (State.taken h s).now = s.now := by simp [State.taken]
@[simp] theorem State.taken_rows (h : ReqHeader) (s : State) : (State.taken h s).rows = s.rows := by simp [State.taken]
@[simp] theorem State.taken_classes (h : ReqHeader) (s : State) : (State.taken h s).classes = s.classes := by simp [State.taken]
@[simp] theorem State.taken_settings (h : ReqHeader) (s : State) : (State.taken h s).settings = s.settings := by simp [State.taken]
@[simp] theorem State.taken_tripLatch (h : ReqHeader) (s : State) : (State.taken h s).tripLatch = s.tripLatch := by simp [State.taken]
@[simp] theorem State.taken_alarms (h : ReqHeader) (s : State) : (State.taken h s).alarms = s.alarms := by simp [State.taken]
@[simp] theorem State.taken_overflow (h : ReqHeader) (s : State) : (State.taken h s).overflow = s.overflow := by simp [State.taken]
@[simp] theorem State.taken_episode (h : ReqHeader) (s : State) : (State.taken h s).episode = s.episode := by simp [State.taken]
@[simp] theorem State.taken_enrol (h : ReqHeader) (s : State) : (State.taken h s).enrol = s.enrol := by simp [State.taken]
@[simp] theorem State.taken_staging (h : ReqHeader) (s : State) : (State.taken h s).staging = s.staging := by simp [State.taken]
@[simp] theorem State.taken_replay (h : ReqHeader) (s : State) : (State.taken h s).replay = s.replay := by simp [State.taken]
@[simp] theorem State.taken_capture (h : ReqHeader) (s : State) : (State.taken h s).capture = s.capture := by simp [State.taken]
@[simp] theorem State.taken_forwardQ (h : ReqHeader) (s : State) : (State.taken h s).forwardQ = s.forwardQ := by simp [State.taken]
@[simp] theorem State.taken_reportQ (h : ReqHeader) (s : State) : (State.taken h s).reportQ = s.reportQ := by simp [State.taken]
@[simp] theorem State.taken_noticeQ (h : ReqHeader) (s : State) : (State.taken h s).noticeQ = s.noticeQ := by simp [State.taken]
@[simp] theorem State.taken_responseQ (h : ReqHeader) (s : State) : (State.taken h s).responseQ = s.responseQ := by simp [State.taken]
@[simp] theorem State.taken_commandQ (h : ReqHeader) (s : State) : (State.taken h s).commandQ = s.commandQ := by simp [State.taken]
@[simp] theorem State.taken_guardCount (h : ReqHeader) (s : State) : (State.taken h s).guardCount = s.guardCount := by simp [State.taken]
@[simp] theorem State.taken_lostNotices (h : ReqHeader) (s : State) : (State.taken h s).lostNotices = s.lostNotices := by simp [State.taken]
@[simp] theorem State.taken_northTx (h : ReqHeader) (s : State) : (State.taken h s).northTx = s.northTx := by simp [State.taken]
@[simp] theorem State.taken_southTx (h : ReqHeader) (s : State) : (State.taken h s).southTx = s.southTx := by simp [State.taken]
@[simp] theorem State.taken_southRx (h : ReqHeader) (s : State) : (State.taken h s).southRx = s.southRx := by
  simp [State.taken]; rfl
@[simp] theorem State.taken_southCounters (h : ReqHeader) (s : State) : (State.taken h s).southCounters = s.southCounters := by
  simp [State.taken]; rfl
@[simp] theorem State.taken_partCounters (h : ReqHeader) (s : State) : (State.taken h s).partCounters = s.partCounters := by simp [State.taken]
@[simp] theorem State.taken_freeReads (h : ReqHeader) (s : State) : (State.taken h s).freeReads = s.freeReads := by simp [State.taken]

/-! ### latchStep -/

@[simp] theorem State.latchStep_pending (c : RowConfig) (w : Worked) (s : State) : (State.latchStep c w s).pending = s.pending := by unfold State.latchStep; split <;> rfl
@[simp] theorem State.latchStep_phase (c : RowConfig) (w : Worked) (s : State) : (State.latchStep c w s).phase = s.phase := by unfold State.latchStep; split <;> rfl
@[simp] theorem State.latchStep_node (c : RowConfig) (w : Worked) (s : State) : (State.latchStep c w s).node = s.node := by unfold State.latchStep; split <;> rfl
@[simp] theorem State.latchStep_now (c : RowConfig) (w : Worked) (s : State) : (State.latchStep c w s).now = s.now := by unfold State.latchStep; split <;> rfl
@[simp] theorem State.latchStep_rows (c : RowConfig) (w : Worked) (s : State) : (State.latchStep c w s).rows = s.rows := by unfold State.latchStep; split <;> rfl
@[simp] theorem State.latchStep_classes (c : RowConfig) (w : Worked) (s : State) : (State.latchStep c w s).classes = s.classes := by unfold State.latchStep; split <;> rfl
@[simp] theorem State.latchStep_settings (c : RowConfig) (w : Worked) (s : State) : (State.latchStep c w s).settings = s.settings := by unfold State.latchStep; split <;> rfl
@[simp] theorem State.latchStep_alarms (c : RowConfig) (w : Worked) (s : State) : (State.latchStep c w s).alarms = s.alarms := by unfold State.latchStep; split <;> rfl
@[simp] theorem State.latchStep_overflow (c : RowConfig) (w : Worked) (s : State) : (State.latchStep c w s).overflow = s.overflow := by unfold State.latchStep; split <;> rfl
@[simp] theorem State.latchStep_episode (c : RowConfig) (w : Worked) (s : State) : (State.latchStep c w s).episode = s.episode := by unfold State.latchStep; split <;> rfl
@[simp] theorem State.latchStep_enrol (c : RowConfig) (w : Worked) (s : State) : (State.latchStep c w s).enrol = s.enrol := by unfold State.latchStep; split <;> rfl
@[simp] theorem State.latchStep_session (c : RowConfig) (w : Worked) (s : State) : (State.latchStep c w s).session = s.session := by unfold State.latchStep; split <;> rfl
@[simp] theorem State.latchStep_staging (c : RowConfig) (w : Worked) (s : State) : (State.latchStep c w s).staging = s.staging := by unfold State.latchStep; split <;> rfl
@[simp] theorem State.latchStep_replay (c : RowConfig) (w : Worked) (s : State) : (State.latchStep c w s).replay = s.replay := by unfold State.latchStep; split <;> rfl
@[simp] theorem State.latchStep_capture (c : RowConfig) (w : Worked) (s : State) : (State.latchStep c w s).capture = s.capture := by unfold State.latchStep; split <;> rfl
@[simp] theorem State.latchStep_forwardQ (c : RowConfig) (w : Worked) (s : State) : (State.latchStep c w s).forwardQ = s.forwardQ := by unfold State.latchStep; split <;> rfl
@[simp] theorem State.latchStep_reportQ (c : RowConfig) (w : Worked) (s : State) : (State.latchStep c w s).reportQ = s.reportQ := by unfold State.latchStep; split <;> rfl
@[simp] theorem State.latchStep_noticeQ (c : RowConfig) (w : Worked) (s : State) : (State.latchStep c w s).noticeQ = s.noticeQ := by unfold State.latchStep; split <;> rfl
@[simp] theorem State.latchStep_responseQ (c : RowConfig) (w : Worked) (s : State) : (State.latchStep c w s).responseQ = s.responseQ := by unfold State.latchStep; split <;> rfl
@[simp] theorem State.latchStep_commandQ (c : RowConfig) (w : Worked) (s : State) : (State.latchStep c w s).commandQ = s.commandQ := by unfold State.latchStep; split <;> rfl
@[simp] theorem State.latchStep_guardCount (c : RowConfig) (w : Worked) (s : State) : (State.latchStep c w s).guardCount = s.guardCount := by unfold State.latchStep; split <;> rfl
@[simp] theorem State.latchStep_lostNotices (c : RowConfig) (w : Worked) (s : State) : (State.latchStep c w s).lostNotices = s.lostNotices := by unfold State.latchStep; split <;> rfl
@[simp] theorem State.latchStep_northTx (c : RowConfig) (w : Worked) (s : State) : (State.latchStep c w s).northTx = s.northTx := by unfold State.latchStep; split <;> rfl
@[simp] theorem State.latchStep_southTx (c : RowConfig) (w : Worked) (s : State) : (State.latchStep c w s).southTx = s.southTx := by unfold State.latchStep; split <;> rfl
@[simp] theorem State.latchStep_northRx (c : RowConfig) (w : Worked) (s : State) : (State.latchStep c w s).northRx = s.northRx := by unfold State.latchStep; split <;> rfl
@[simp] theorem State.latchStep_southRx (c : RowConfig) (w : Worked) (s : State) : (State.latchStep c w s).southRx = s.southRx := by unfold State.latchStep; split <;> rfl
@[simp] theorem State.latchStep_northCounters (c : RowConfig) (w : Worked) (s : State) : (State.latchStep c w s).northCounters = s.northCounters := by unfold State.latchStep; split <;> rfl
@[simp] theorem State.latchStep_southCounters (c : RowConfig) (w : Worked) (s : State) : (State.latchStep c w s).southCounters = s.southCounters := by unfold State.latchStep; split <;> rfl
@[simp] theorem State.latchStep_partCounters (c : RowConfig) (w : Worked) (s : State) : (State.latchStep c w s).partCounters = s.partCounters := by unfold State.latchStep; split <;> rfl
@[simp] theorem State.latchStep_freeReads (c : RowConfig) (w : Worked) (s : State) : (State.latchStep c w s).freeReads = s.freeReads := by unfold State.latchStep; split <;> rfl

/-! ### The fields written -/

@[simp] theorem State.receiver_setReceiver (port : Port) (r : Receiver) (s : State) :
    (s.setReceiver port r).receiver port = r := by cases port <;> rfl

@[simp] theorem State.receiver_countPort (port p : Port) (change : PortCounters → PortCounters) (s : State) :
    (s.countPort p change).receiver port = s.receiver port := by cases port <;> cases p <;> rfl

@[simp] theorem State.setRecord_rows (addr : ChannelAddr) (rt : Runtime) (s : State) :
    (s.setRecord addr rt).rows = changeRow s.rows addr (fun r => { r with rt }) := rfl

@[simp] theorem State.insertConfig_rows (c : RowConfig) (s : State) :
    (s.insertConfig c).rows = insertRow (freshRow c s.now) s.rows := rfl

@[simp] theorem State.insertConfig_enrol (c : RowConfig) (s : State) :
    (s.insertConfig c).enrol = removeEnrol s.enrol c.addr := rfl

@[simp] theorem State.whileRunning_running {change : State → State} {s : State} (h : s.phase = .running) :
    s.whileRunning change = change s := if_pos h

theorem State.whileRunning_held {change : State → State} {s : State} (h : s.phase ≠ .running) :
    s.whileRunning change = s := if_neg h

end Sys2Proof.Machine
end

