-- ==== Sys2Proof/Laws/Link.lean ====
section
/-! SUPPORT. The link: a built frame read back, a receiver's bytes, and a frame command as the Router's work on the received state. -/

namespace Sys2Proof.Machine

open Sys2Proof

/-! ### Byte order -/

theorem half_append (w : BitVec 16) : w.extractLsb' 8 8 ++ w.extractLsb' 0 8 = w := by
  ext i hi
  simp only [BitVec.getElem_append, BitVec.getElem_extractLsb']
  split
  · simp [BitVec.getLsbD_eq_getElem hi]
  · rename_i h
    rw [show 8 + (i - 8) = i by omega, BitVec.getLsbD_eq_getElem hi]

theorem quad_append (w : BitVec 32) :
    (w.extractLsb' 24 8 ++ w.extractLsb' 16 8) ++ (w.extractLsb' 8 8 ++ w.extractLsb' 0 8) = w := by
  ext i hi
  simp only [BitVec.getElem_append, BitVec.getElem_extractLsb']
  split <;> split
  · simp [BitVec.getLsbD_eq_getElem hi]
  · rw [show 8 + (i - 8) = i by omega, BitVec.getLsbD_eq_getElem hi]
  · rw [show 16 + (i - 16) = i by omega, BitVec.getLsbD_eq_getElem hi]
  · rw [show 24 + (i - 16 - 8) = i by omega, BitVec.getLsbD_eq_getElem hi]

@[simp] theorem be16_length (w : BitVec 16) : (be16 w).length = 2 := rfl

@[simp] theorem be32_length (w : BitVec 32) : (be32 w).length = 4 := rfl

theorem byteAt_append_left {a b : List Byte} {i : Nat} (h : i < a.length) : byteAt (a ++ b) i = byteAt a i := by
  simp [byteAt, List.getD_eq_getElem?_getD, List.getElem?_append_left h]

theorem byteAt_append_right {a b : List Byte} {i : Nat} (h : a.length ≤ i) :
    byteAt (a ++ b) i = byteAt b (i - a.length) := by
  simp [byteAt, List.getD_eq_getElem?_getD, List.getElem?_append_right h]

/-- A 16-bit field written most significant byte first is read back at its offset (R178). -/
theorem halfAt_append_be16 (a b : List Byte) (w : BitVec 16) : halfAt (a ++ (be16 w ++ b)) a.length = w := by
  rw [halfAt, byteAt_append_right (le_refl _), byteAt_append_right (Nat.le_succ _), Nat.sub_self,
    show a.length + 1 - a.length = 1 by omega]
  exact half_append w

theorem halfAt_append_be16_end (a : List Byte) (w : BitVec 16) : halfAt (a ++ be16 w) a.length = w := by
  have := halfAt_append_be16 a [] w
  rwa [List.append_nil] at this

/-! ### Codes read back -/

@[simp] theorem frameKindOf_code (k : FrameKind) : frameKindOf k.code = some k := by cases k <;> decide

@[simp] theorem policyOf_code (p : Policy) : policyOf p.code = some p := by cases p <;> decide

theorem policyOf_some {b : Byte} {p : Policy} (h : policyOf b = some p) : p.code = b := by
  unfold policyOf at h
  split at h <;> simp_all <;> subst_vars <;> apply BitVec.eq_of_toNat_eq <;> simp_all [Policy.code]

@[simp] theorem requestKindOf_code (k : RequestKind) : requestKindOf k.code = some k := by cases k <;> decide

@[simp] theorem alarmKindOf_code (k : AlarmKind) : alarmKindOf k.code = some k := by cases k <;> decide

/-! ### A built frame read back -/

@[simp] theorem coveredBytes_length (k : FrameKind) (d q : Byte) (p : List Byte) :
    (coveredBytes k d q p).length = p.length + 4 := rfl

@[simp] theorem Frame.bytes_length (f : Frame) : f.bytes.length = f.payload.length + 6 := by
  simp [Frame.bytes]

theorem lengthAllowed_le {k : FrameKind} {n : Nat} (h : lengthAllowed k n = true) : n ≤ 48 := by
  cases k <;> simp [lengthAllowed] at h <;> omega

/-- A frame whose Check is that of its fields, of a kind that may arrive on the port and a length its kind allows, passes every
check of R171 and is read back as it stands (R170, R172, R178). -/
theorem validate_frame (k : FrameKind) (d q : Byte) (p : List Byte) (c : BitVec 16) (h : lengthAllowed k p.length = true)
    (hc : crc16 (coveredBytes k d q p) = c) :
    validate (arrivesOn k) (coveredBytes k d q p ++ be16 c) (p.length + 6)
      = .ok { kind := k, dest := d, source := q, payload := p, check := c } := by
  have hp : p.length ≤ 48 := lengthAllowed_le h
  have hn : (byteOf p.length).toNat = p.length := by
    simp only [byteOf, BitVec.toNat_ofNat]; omega
  have hl : (coveredBytes k d q p ++ be16 c).length - 2 = (coveredBytes k d q p).length := by simp
  have h0 : byteAt (coveredBytes k d q p ++ be16 c) 0 = k.code := rfl
  have h1 : byteAt (coveredBytes k d q p ++ be16 c) 1 = d := rfl
  have h2 : byteAt (coveredBytes k d q p ++ be16 c) 2 = q := rfl
  have h3 : byteAt (coveredBytes k d q p ++ be16 c) 3 = byteOf p.length := rfl
  unfold validate
  rw [hl, List.take_left, halfAt_append_be16_end, h0, h1, h2, h3, hn, frameKindOf_code,
    if_neg (by show ¬ (_ ∨ 54 < _); omega), if_neg (not_not.mpr hc), if_neg (by show ¬ (48 < _ ∨ _); omega)]
  dsimp only
  rw [if_neg (not_not.mpr rfl), h, if_neg Bool.noConfusion]
  rfl

theorem validate_built (k : FrameKind) (d q : Byte) (p : List Byte) (h : lengthAllowed k p.length = true) :
    validate (arrivesOn k) (buildFrame k d q p).bytes (buildFrame k d q p).bytes.length
      = .ok (buildFrame k d q p) := by
  have := validate_frame k d q p (crc16 (coveredBytes k d q p)) h rfl
  rw [Frame.bytes_length]
  simp only [buildFrame, Frame.bytes]
  exact this

/-! ### The receiver -/

theorem Receiver.takeBytes_cons (r : Receiver) (b : Byte) (bs : List Byte) :
    r.takeBytes (b :: bs) = (r.takeByte b).takeBytes bs := rfl

@[simp] theorem Receiver.takeBytes_idle (bs : List Byte) : Receiver.takeBytes .idle bs = .idle := by
  induction bs with
  | nil => rfl
  | cons b bs ih => exact ih

/-- A receiver IN_FRAME stores the bytes it takes up to 54 and counts them all (R169). -/
theorem Receiver.takeBytes_inFrame (held : List Byte) (n : Nat) (bs : List Byte) (h : held.length ≤ Config.frameBytesMax) :
    Receiver.takeBytes (.inFrame held n) bs = .inFrame ((held ++ bs).take Config.frameBytesMax) (n + bs.length) := by
  induction bs generalizing held n with
  | nil => simp [Receiver.takeBytes, List.take_of_length_le h]
  | cons b bs ih =>
    rw [Receiver.takeBytes_cons]
    simp only [Receiver.takeByte]
    split
    · rename_i hlt
      rw [ih _ _ (by simp; exact hlt), List.append_assoc, List.length_cons]
      congr 1; omega
    · rename_i hge
      have he : held.length = Config.frameBytesMax := le_antisymm h (not_lt.mp hge)
      rw [ih _ _ h, List.take_left' he, List.take_left' he, List.length_cons]
      congr 1; omega

theorem Receiver.takeBytes_fresh (bs : List Byte) :
    Receiver.takeBytes (.inFrame [] 0) bs = .inFrame (bs.take Config.frameBytesMax) bs.length := by
  rw [Receiver.takeBytes_inFrame _ _ _ (Nat.zero_le _)]; simp

/-- Receiving a frame whose first bytes the receiver holds completes that frame (R169). -/
theorem State.receive_accepts {port : Port} {bytes : List Byte} {s : State} (h : s.accepts port bytes) :
    s.receive port bytes
      = State.frameComplete port (bytes.take Config.frameBytesMax) bytes.length (s.setReceiver port .idle) := by
  obtain ⟨_, hr | ⟨n, hn, hr⟩⟩ := h
  · unfold State.receive
    simp only [hr, Receiver.opened, Receiver.taken, List.drop_zero, Receiver.takeBytes_fresh]
  have hlen : ((bytes.take n).take Config.frameBytesMax).length ≤ Config.frameBytesMax := by simp
  have hbytes : ((bytes.take n).take Config.frameBytesMax ++ bytes.drop n).take Config.frameBytesMax
      = bytes.take Config.frameBytesMax := by
    by_cases hc : n ≤ Config.frameBytesMax
    · rw [List.take_of_length_le (l := bytes.take n) (by simp; omega), List.take_append_drop]
    · have : ((bytes.take n).take Config.frameBytesMax).length = Config.frameBytesMax := by simp; omega
      rw [List.take_left' this, List.take_take, min_eq_left (by omega)]
  unfold State.receive
  simp only [hr, Receiver.opened, Receiver.taken]
  rw [Receiver.takeBytes_inFrame _ _ _ hlen, hbytes]
  simp only [List.length_drop, Nat.add_sub_cancel' hn]

/-- Receiving a built frame hands it to the Router (R171). -/
theorem State.receive_built {k : FrameKind} {d q : Byte} {p : List Byte} {s : State}
    (h : lengthAllowed k p.length = true) (ha : s.accepts (arrivesOn k) (buildFrame k d q p).bytes) :
    s.receive (arrivesOn k) (buildFrame k d q p).bytes
      = State.route (arrivesOn k) (buildFrame k d q p) (s.received (arrivesOn k)) := by
  have hlen : (buildFrame k d q p).bytes.length = p.length + 6 := Frame.bytes_length _
  have hp := lengthAllowed_le h
  rw [State.receive_accepts ha, List.take_of_length_le (by rw [hlen]; show _ ≤ 54; omega)]
  unfold State.frameComplete
  rw [validate_built k d q p h]
  rfl

end Sys2Proof.Machine
end

