-- ==== Sys2Proof/Laws/Requests.lean ====
section
/-! SUPPORT. A management request as the steps of R127: what each of its outcomes is as one equation, from the frame to the
answer. -/

namespace Sys2Proof.Machine

open Sys2Proof

/-! ### The session under a renewal -/

@[simp] theorem State.isOwner_received (node : NodeAddr) (port : Port) (s : State) :
    (s.received port).isOwner node = s.isOwner node := by cases port <;> rfl

@[simp] theorem State.isOwner_renewLease (node source : NodeAddr) (s : State) :
    (s.renewLease source).isOwner node = s.isOwner node := by
  unfold State.renewLease State.isOwner
  split
  · rename_i ses hs
    split <;> simp [hs]
  · rfl

theorem State.isOwner_iff {node : NodeAddr} {s : State} :
    s.isOwner node = true ↔ ∃ ses, s.session = some ses ∧ ses.owner = node := by
  simp [State.isOwner, Option.any_eq_true]

theorem State.ownAddress_ne_broadcast (s : State) : s.ownAddress ≠ some 0xFF := by
  unfold State.ownAddress
  split
  · simp
  · rename_i h
    intro hc
    exact h (Or.inr (Option.some.inj hc))

/-! ### From the frame to the agent -/

theorem lengthAllowed_request {args : List Byte} {id code : Byte} (h : args.length ≤ 46) :
    lengthAllowed .mgmtReq (id :: code :: args).length = true := by
  simp [lengthAllowed]; omega

/-- A request's frame received is routed (R169, R171). -/
theorem State.request_routed {h : ReqHeader} {code : Byte} {args : List Byte} {s : State}
    (ha : s.accepts .north (requestFrame h code args).bytes) (hl : args.length ≤ 46) :
    s.request code h args = State.routeNorth (requestFrame h code args) (s.received .north) := by
  rw [State.request, State.whileRunning_running ha.1]
  exact State.receive_built (lengthAllowed_request hl) ha

theorem State.received_ownAddress (port : Port) (s : State) : (s.received port).ownAddress = s.ownAddress := by
  cases port <;> rfl

/-- A request that reaches the agent is taken by it and, sent to broadcast, passed on (R125, R174). -/
theorem State.request_reaches {h : ReqHeader} {code : Byte} {args : List Byte} {s : State}
    (ha : s.accepts .north (requestFrame h code args).bytes) (hl : args.length ≤ 46) (hr : s.reaches h) :
    s.request code h args = ((s.received .north).takeRequest h code args).passOn h code args := by
  rw [State.request_routed ha hl]
  have hk : (requestFrame h code args).kind = .mgmtReq := rfl
  have hd : (requestFrame h code args).dest = h.dest := rfl
  have hh : requestHeader (requestFrame h code args) = h := rfl
  have h1 : byteAt (requestFrame h code args).payload 1 = code := rfl
  have h2 : (requestFrame h code args).payload.drop 2 = args := rfl
  unfold State.routeNorth State.passOn
  rw [hk, hd, hh, h1, h2, State.received_ownAddress]
  dsimp only
  by_cases hown : s.ownAddress = some h.dest
  · have : h.dest ≠ 0xFF := fun hb => s.ownAddress_ne_broadcast (hb ▸ hown)
    rw [if_pos hown, if_neg this]
  · have hb : h.dest = 0xFF := hr.resolve_left hown
    rw [if_neg hown, if_pos hb, if_pos hb]

/-! ### The steps of R127 -/

/-- A request at a full Response Queue (R126). -/
theorem State.takeRequest_full {h : ReqHeader} {code : Byte} {args : List Byte} {s : State}
    (hq : Config.responseCapacity ≤ s.responseQ.length) :
    s.takeRequest h code args
      = { s with partCounters := { s.partCounters with requestsDiscarded := s.partCounters.requestsDiscarded + 1 } } :=
  if_pos hq

/-- The stored response of a repeat (R134). -/
theorem State.takeRequest_repeat {h : ReqHeader} {code : Byte} {args : List Byte} {s : State} {r : Response}
    (hq : s.responseQ.length < Config.responseCapacity) (ho : s.isOwner h.source = true) (hr : s.replay = some r)
    (hid : r.id = h.id) :
    s.takeRequest h code args = (s.renewLease h.source).placeResponse h.source r := by
  unfold State.takeRequest
  rw [if_neg (not_le.mpr hq)]
  have : (s.renewLease h.source).replayFor h = some r := by
    simp [State.replayFor, ho, hr, hid]
  simp only [this]

/-- Steps 3 to 6 of a request that is no repeat (R127). -/
theorem State.takeRequest_fresh {h : ReqHeader} {code : Byte} {args : List Byte} {s : State}
    (hq : s.responseQ.length < Config.responseCapacity) (hn : ¬ s.repeats h) :
    s.takeRequest h code args
      = State.answer h code (decideRequest h.source code args (s.renewLease h.source)).2
          (decideRequest h.source code args (s.renewLease h.source)).1 := by
  unfold State.takeRequest
  rw [if_neg (not_le.mpr hq)]
  have : (s.renewLease h.source).replayFor h = none := by
    unfold State.replayFor
    rw [State.isOwner_renewLease, State.renewLease_replay]
    by_cases ho : s.isOwner h.source = true
    · rw [if_pos ho, Option.filter_eq_none_iff]
      intro r hr hid
      exact hn ⟨State.isOwner_iff.mp ho, r, hr, by simpa using hid⟩
    · rw [if_neg ho]
  simp only [this]

theorem decideRequest_unknown {source : NodeAddr} {code : Byte} {args : List Byte} {s : State}
    (h : requestKindOf code = none) :
    decideRequest source code args s = (s, { status := .unknownRequest, data := [] }) := by
  unfold decideRequest; rw [h]

theorem decideRequest_badLength {source : NodeAddr} {kind : RequestKind} {args : List Byte} {s : State}
    (h : args.length ≠ kind.argLength) :
    decideRequest source kind.code args s = (s, { status := .badRequest, data := [] }) := by
  unfold decideRequest; rw [requestKindOf_code]; exact if_pos h

theorem decideRequest_session {source : NodeAddr} {kind : RequestKind} {args : List Byte} {s : State} {a : Answer}
    (h : args.length = kind.argLength) (hn : kind.needsSession = true) (hs : sessionRefusal source s = some a) :
    decideRequest source kind.code args s = (s, a) := by
  unfold decideRequest
  rw [requestKindOf_code]
  simp [h, hn, hs]

theorem decideRequest_runs {source : NodeAddr} {kind : RequestKind} {args : List Byte} {s : State}
    (h : args.length = kind.argLength) (hs : kind.needsSession = true → s.isOwner source = true) :
    decideRequest source kind.code args s = executeRequest kind source args s := by
  unfold decideRequest
  rw [requestKindOf_code]
  by_cases hn : kind.needsSession = true
  · obtain ⟨ses, hses, hown⟩ := State.isOwner_iff.mp (hs hn)
    simp [h, hn, sessionRefusal, hses, hown]
  · simp [h, hn]

/-! ### Whole requests -/

@[simp] theorem State.repeats_received (h : ReqHeader) (port : Port) (s : State) :
    (s.received port).repeats h ↔ s.repeats h := by cases port <;> rfl

/-- An admitted request that repeats no stored id: steps 3 to 6 on the taken state, and the answer (R127). -/
theorem State.request_fresh {h : ReqHeader} {code : Byte} {args : List Byte} {s : State}
    (ha : s.admits h code args) (hn : ¬ s.repeats h) :
    s.request code h args
      = State.replied h code args (decideRequest h.source code args (s.taken h)).2
          (decideRequest h.source code args (s.taken h)).1 := by
  obtain ⟨hf, hl, hr, hq⟩ := ha
  rw [State.request_reaches hf hl hr,
    State.takeRequest_fresh (by simpa using hq) (by simpa using hn)]
  rfl

/-- A request that comes to step 6 is executed on the taken state and answered (R127). -/
theorem State.request_runs {kind : RequestKind} {h : ReqHeader} {args : List Byte} {s : State}
    (hr : s.runs kind h args) :
    s.request kind.code h args
      = State.replied h kind.code args (executeRequest kind h.source args (s.taken h)).2
          (executeRequest kind h.source args (s.taken h)).1 := by
  obtain ⟨ha, hn, hl, hs⟩ := hr
  rw [State.request_fresh ha hn, decideRequest_runs hl]
  intro hk
  have := State.isOwner_iff.mpr (hs hk)
  simpa [State.taken] using this

end Sys2Proof.Machine
end

