-- ==== Sys2Proof/Laws/Fixed.lean ====
section
/-! SUPPORT. What no frame, request, completion or expiry changes: the waiting commands, the phase, the node address and the
time. One lemma for each block's work, up to the whole of exec. -/

namespace Sys2Proof.Machine

open Sys2Proof

/-- The part of the state that only the pins and the Time Base change (R183, R184, R187). -/
def State.fixed (s : State) : List Instr × Phase × NodeAddr × Time := (s.pending, s.phase, s.node, s.now)

theorem State.southJoined_fixed (s : State) : s.southJoined.fixed = s.fixed := by simp [State.fixed]
theorem State.offerForward_fixed (f : Frame) (s : State) : (s.offerForward f).fixed = s.fixed := by simp [State.fixed]
theorem State.offerNotice_fixed (n : Notice) (s : State) : (s.offerNotice n).fixed = s.fixed := by simp [State.fixed]
theorem State.offerCommand_fixed (f : Frame) (s : State) : (s.offerCommand f).fixed = s.fixed := by simp [State.fixed]
theorem State.retire_fixed (a : ChannelAddr) (s : State) : (s.retire a).fixed = s.fixed := by simp [State.fixed]
theorem State.changeAlarm_fixed (a : ChannelAddr) (k : AlarmKind) (g : AlarmEntry → AlarmEntry) (s : State) :
    (s.changeAlarm a k g).fixed = s.fixed := by simp [State.fixed]

theorem State.abortCapture_fixed (s : State) : s.abortCapture.fixed = s.fixed := State.offerNotice_fixed _ _

theorem State.captureRowDeleted_fixed (a : ChannelAddr) (s : State) : (s.captureRowDeleted a).fixed = s.fixed := by
  simp [State.fixed]

theorem State.applyItem_fixed (s : State) (i : StagedItem) : (s.applyItem i).fixed = s.fixed := by
  cases i <;> simp only [State.applyItem, State.replaceConfig, State.deleteConfig] <;> split <;>
    simp [State.fixed]

theorem State.applyItems_fixed (is : List StagedItem) (s : State) : (is.foldl State.applyItem s).fixed = s.fixed :=
  State.foldl_outside State.fixed State.applyItem State.applyItem_fixed is s

theorem stageItem_fixed (i : StagedItem) (s : State) : (stageItem i s).1.fixed = s.fixed := by
  unfold stageItem
  dsimp only
  split
  · rfl
  · split <;> rfl

theorem doStageRow_fixed (args : List Byte) (s : State) : (doStageRow args s).1.fixed = s.fixed := by
  unfold doStageRow; split
  · rfl
  · exact stageItem_fixed _ _

theorem doCommit_fixed (s : State) : (doCommit s).1.fixed = s.fixed := by
  unfold doCommit; split
  · rfl
  · exact State.applyItems_fixed _ s

theorem doEnrol_fixed (args : List Byte) (s : State) : (doEnrol args s).1.fixed = s.fixed := by
  unfold doEnrol
  dsimp only
  split; · rfl
  split; · rfl
  split
  · split
    · rfl
    · exact State.southJoined_fixed _
  · split
    · exact State.southJoined_fixed _
    · rfl

theorem ackEntry_fixed (a : ChannelAddr) (k : AlarmKind) (n : BitVec 16) (s : State) :
    (ackEntry a k n s).1.fixed = s.fixed := by
  unfold ackEntry
  split; · rfl
  split; · rfl
  split <;> first | rfl | exact State.changeAlarm_fixed _ _ _ _

theorem doAckAlarm_fixed (args : List Byte) (s : State) : (doAckAlarm args s).1.fixed = s.fixed := by
  unfold doAckAlarm
  dsimp only
  split
  · split
    · rfl
    · unfold ackOverflow; split
      · simp [State.fixed]
      · rfl
  · split
    · rfl
    · split
      · rfl
      · exact ackEntry_fixed _ _ _ _

theorem doCaptureAbort_fixed (s : State) : (doCaptureAbort s).1.fixed = s.fixed := by
  unfold doCaptureAbort
  dsimp only
  split <;> first | rfl | exact State.abortCapture_fixed s

theorem executeRequest_fixed (k : RequestKind) (source : NodeAddr) (args : List Byte) (s : State) :
    (executeRequest k source args s).1.fixed = s.fixed := by
  cases k <;> simp only [executeRequest]
  case readPart => rfl
  case readCounters => unfold doReadCounters; dsimp only; split; · rfl
                       split <;> first | rfl | (split <;> rfl)
  case listRows => rfl
  case readRow => unfold doReadRow; split <;> rfl
  case readState => unfold doReadState; split <;> rfl
  case readAlarms => rfl
  case readClass => unfold doReadClass; split <;> rfl
  case readCapture => unfold doReadCapture; dsimp only; split; · rfl
                      split; · rfl
                      split <;> rfl
  case readEnrolment => rfl
  case openSession => unfold doOpenSession; dsimp only; split; · rfl
                      split; · rfl
                      split <;> rfl
  case closeSession => unfold doCloseSession; split; · rfl
                       split <;> rfl
  case stageRow => exact doStageRow_fixed _ _
  case stageDelete => exact stageItem_fixed _ _
  case discard => rfl
  case commit => exact doCommit_fixed s
  case writeClass => unfold doWriteClass; dsimp only; split; · rfl
                     split; · rfl
                     split; · rfl
                     split <;> rfl
  case deleteClass => unfold doDeleteClass; dsimp only; split <;> rfl
  case setPart => unfold doSetPart; split <;> rfl
  case ackAlarm => exact doAckAlarm_fixed _ _
  case tripRelease => unfold doTripRelease; split; · rfl
                      split <;> rfl
  case enrol => exact doEnrol_fixed _ _
  case captureArm => unfold doCaptureArm; dsimp only; split; · rfl
                     split; · rfl
                     split; · rfl
                     split <;> rfl
  case captureTrigger => unfold doCaptureTrigger; split <;> rfl
  case captureAbort => exact doCaptureAbort_fixed s
  case captureRelease => unfold doCaptureRelease; split <;> rfl
  case reset => unfold doReset; split <;> rfl

theorem decideRequest_fixed (source : NodeAddr) (code : Byte) (args : List Byte) (s : State) :
    (decideRequest source code args s).1.fixed = s.fixed := by
  unfold decideRequest
  split; · rfl
  split; · rfl
  split
  · rfl
  · exact executeRequest_fixed _ _ _ _

theorem State.takeRequest_fixed (h : ReqHeader) (code : Byte) (args : List Byte) (s : State) :
    (s.takeRequest h code args).fixed = s.fixed := by
  unfold State.takeRequest
  split; · rfl
  have hr : (s.renewLease h.source).fixed = s.fixed := by simp [State.fixed]
  dsimp only
  split
  · rw [← hr]; simp [State.fixed]
  · have hd := decideRequest_fixed h.source code args (s.renewLease h.source)
    rw [hr] at hd
    rw [← hd]; simp [State.fixed, State.answer]

theorem State.takeDescriptor_fixed (d : Descriptor) (s : State) : (s.takeDescriptor d).fixed = s.fixed := by
  unfold State.takeDescriptor; split <;> simp [State.fixed]

theorem State.descriptorArrived_fixed (d : Descriptor) (s : State) : (s.descriptorArrived d).fixed = s.fixed := by
  unfold State.descriptorArrived
  split; · rfl
  split <;> first | rfl | exact State.takeDescriptor_fixed d s

theorem State.sampleArrived_fixed (f : Frame) (s : State) : (s.sampleArrived f).fixed = s.fixed := by
  unfold State.sampleArrived
  split
  · unfold State.unknownSample State.unknownArrival State.createEnrol
    dsimp only
    cases s.settings.unknown <;> dsimp only <;> split <;> first | (split <;> simp [State.fixed]) | simp [State.fixed]
  · split; · rfl
    all_goals
      split
      · simp [State.fixed, State.duplicateSample]
      · simp only [State.fixed, State.conditionSample, State.offerStep]
        split <;> simp

theorem State.route_fixed (port : Port) (f : Frame) (s : State) : (s.route port f).fixed = s.fixed := by
  cases port
  · simp only [State.route, State.routeNorth]
    split <;> first | rfl | skip
    · split; · exact State.takeRequest_fixed _ _ _ _
      split
      · rw [State.offerCommand_fixed]; exact State.takeRequest_fixed _ _ _ _
      · exact State.offerCommand_fixed _ _
    all_goals split; · rfl
              · exact State.offerCommand_fixed _ _
  · simp only [State.route, State.routeSouth]
    split <;> first | rfl | exact State.sampleArrived_fixed f s | exact State.offerForward_fixed f s | skip
    rw [State.descriptorArrived_fixed]; exact State.offerForward_fixed f s

/-- A frame received changes neither the waiting commands, the phase, the node address nor the time. -/
theorem State.receive_fixed (port : Port) (bytes : List Byte) (s : State) : (s.receive port bytes).fixed = s.fixed := by
  unfold State.receive
  dsimp only
  split; · rfl
  unfold State.frameComplete
  split
  · cases port <;> rfl
  · rw [State.route_fixed]; cases port <;> rfl

theorem State.whileRunning_fixed (change : State → State) (h : ∀ s, (change s).fixed = s.fixed) (s : State) :
    (s.whileRunning change).fixed = s.fixed := by
  unfold State.whileRunning; split
  · exact h s
  · rfl

theorem State.takeStart_fixed (port : Port) (data : List Byte) (s : State) : (s.takeStart port data).fixed = s.fixed := by
  unfold State.takeStart; dsimp only; split <;> cases port <;> rfl

theorem State.completeNorth_fixed (s : State) : s.completeNorth.fixed = s.fixed := by
  unfold State.completeNorth; split
  · have := State.pickNorth_outside { s with northTx := none }
    simp only [State.fixed, State.of_maskNorth_pending this, State.of_maskNorth_phase this,
      State.of_maskNorth_node this, State.of_maskNorth_now this]
  · rfl

theorem State.pickSouth_fixed (s : State) : s.pickSouth.fixed = s.fixed := by
  have := State.pickSouth_outside s
  simp only [State.fixed, State.of_maskSouth_pending this, State.of_maskSouth_phase this, State.of_maskSouth_node this,
    State.of_maskSouth_now this]

theorem State.completeCommand_fixed (s : State) : s.completeCommand.fixed = s.fixed := by
  unfold State.completeCommand; split
  · exact State.pickSouth_fixed _
  all_goals rfl

theorem State.completeProbe_fixed (s : State) : s.completeProbe.fixed = s.fixed := by
  unfold State.completeProbe; split
  · exact State.pickSouth_fixed _
  all_goals rfl

theorem State.expireStale_fixed (a : ChannelAddr) (s : State) : (s.expireStale a).fixed = s.fixed := by
  unfold State.expireStale
  split; · rfl
  split
  · simp [State.fixed]
  · rfl

theorem State.expireProbeWait_fixed (a : ChannelAddr) (s : State) : (s.expireProbeWait a).fixed = s.fixed := by
  unfold State.expireProbeWait State.probeWaitExpired
  split; · rfl
  split
  · split <;> simp [State.fixed]
  · rfl

theorem State.expireHold_fixed (a : ChannelAddr) (s : State) : (s.expireHold a).fixed = s.fixed := by
  unfold State.expireHold
  split; · rfl
  split <;> rfl

theorem State.expireLease_fixed (s : State) : s.expireLease.fixed = s.fixed := by
  unfold State.expireLease
  split; · rfl
  split
  · simp [State.fixed]
  · rfl

/-- Every command answers a next state. -/
theorem exec_next (c : Instr) (s : State) : ∃ t, exec c s = .next t := by cases c <;> exact ⟨_, rfl⟩

/-- The commands that are frames: what each does is the reception of its bytes while the part runs. -/
theorem exec_frame {c : Instr} {port : Port} {bytes : List Byte} (h : frameOnLine c = some (port, bytes)) (s : State) :
    exec c s = .next (s.whileRunning (State.receive port bytes)) := by
  cases c <;> simp only [frameOnLine, requestOf, Option.map_some, Option.map_none, Option.some.injEq, Prod.mk.injEq,
    reduceCtorEq] at h <;> obtain ⟨rfl, rfl⟩ := h <;> rfl

/-- The management requests: what each does is the reception of its frame. -/
theorem exec_request {c : Instr} {h : ReqHeader} {code : Byte} {args : List Byte}
    (hc : requestOf c = some (h, code, args)) (s : State) : exec c s = .next (s.request code h args) := by
  cases c <;> simp only [requestOf, Option.some.injEq, Prod.mk.injEq, reduceCtorEq] at hc <;>
    obtain ⟨rfl, rfl, rfl⟩ := hc <;> rfl

/-- A request that comes to step 6, as one equation of exec (R127). -/
theorem exec_runs {c : Instr} {kind : RequestKind} {h : ReqHeader} {args : List Byte} {s : State}
    (hc : requestOf c = some (h, kind.code, args)) (hr : s.runs kind h args) :
    exec c s = .next (State.replied h kind.code args (executeRequest kind h.source args (s.taken h)).2
      (executeRequest kind h.source args (s.taken h)).1) := by
  rw [exec_request hc, State.request_runs hr]

/-- A command other than those of the pins and the Time Base changes neither the waiting commands, the phase, the node address nor
the time. -/
theorem exec_fixed {c : Instr} {s t : State} (hp : isPinCommand c = false) (ht : c ≠ .timeBaseIncrement)
    (h : exec c s = .next t) : t.fixed = s.fixed := by
  cases hf : frameOnLine c with
  | some r =>
    rw [exec_frame hf] at h
    cases h
    exact State.whileRunning_fixed _ (State.receive_fixed _ _) s
  | none =>
    cases c <;> simp [frameOnLine, requestOf, isPinCommand] at hf hp
    case frameAbandoned => cases h; exact State.whileRunning_fixed _ (State.takeStart_fixed _ _) s
    case northTransmitComplete => cases h; exact State.whileRunning_fixed _ State.completeNorth_fixed s
    case southTransmitComplete => cases h; exact State.whileRunning_fixed _ State.completeCommand_fixed s
    case probeTransmitComplete => cases h; exact State.whileRunning_fixed _ State.completeProbe_fixed s
    case staleExpiry => cases h; exact State.whileRunning_fixed _ (State.expireStale_fixed _) s
    case probeWaitExpiry => cases h; exact State.whileRunning_fixed _ (State.expireProbeWait_fixed _) s
    case holdExpiry => cases h; exact State.whileRunning_fixed _ (State.expireHold_fixed _) s
    case leaseExpiry => cases h; exact State.whileRunning_fixed _ State.expireLease_fixed s
    case startSymbol => cases h; exact State.whileRunning_fixed _ (State.takeStart_fixed _ _) s
    case timeBaseIncrement => exact absurd rfl ht

end Sys2Proof.Machine
end

