-- ==== Sys2Proof/Laws/Induction.lean ====
section
/-! SUPPORT. One induction over the commands: a predicate that every block's work keeps is kept by every step. -/

namespace Sys2Proof.Machine

open Sys2Proof

/-- What a predicate must be kept by for every step to keep it: the work of each block, asked for while the part runs. -/
structure Kept (P : State → Prop) : Prop where
  pending : ∀ s l, P s → P { s with pending := l }
  powerOn : ∀ s straps low, P s → P (s.powerOn straps low)
  assertReset : ∀ s, s.phase = .running → P s → P s.assertReset
  releaseReset : ∀ s preserve straps, P s → P (s.releaseReset preserve straps)
  time : ∀ s, s.phase = .running → P s → P s.incrementTime
  setReceiver : ∀ s port r, s.phase = .running → P s → P (s.setReceiver port r)
  countPort : ∀ s port change, s.phase = .running → P s → P (s.countPort port change)
  sample : ∀ s f, s.phase = .running → P s → P (s.sampleArrived f)
  forward : ∀ s f, s.phase = .running → P s → P (s.offerForward f)
  descriptor : ∀ s d, s.phase = .running → P s → P (s.descriptorArrived d)
  command : ∀ s f, s.phase = .running → P s → P (s.offerCommand f)
  request : ∀ s h code args, s.phase = .running → P s → P (s.takeRequest h code args)
  completeNorth : ∀ s, s.phase = .running → P s → P s.completeNorth
  completeCommand : ∀ s, s.phase = .running → P s → P s.completeCommand
  completeProbe : ∀ s, s.phase = .running → P s → P s.completeProbe
  stale : ∀ s addr, s.phase = .running → P s → P (s.expireStale addr)
  probeWait : ∀ s addr, s.phase = .running → P s → P (s.expireProbeWait addr)
  hold : ∀ s addr, s.phase = .running → P s → P (s.expireHold addr)
  lease : ∀ s, s.phase = .running → P s → P s.expireLease

theorem State.phase_of_fixed {s t : State} (h : t.fixed = s.fixed) : t.phase = s.phase := congrArg (·.2.1) h

theorem Kept.route {P : State → Prop} (K : Kept P) (port : Port) (f : Frame) {s : State} (hp : s.phase = .running)
    (h : P s) : P (s.route port f) := by
  cases port
  · simp only [State.route, State.routeNorth]
    split
    · split; · exact K.request _ _ _ _ hp h
      split
      · exact K.command _ _ (by rw [State.phase_of_fixed (State.takeRequest_fixed _ _ _ _)]; exact hp)
          (K.request _ _ _ _ hp h)
      · exact K.command _ _ hp h
    · split
      · exact h
      · exact K.command _ _ hp h
    · split
      · exact h
      · exact K.command _ _ hp h
    all_goals exact h
  · simp only [State.route, State.routeSouth]
    split
    · exact K.sample _ _ hp h
    · exact K.descriptor _ _ (by simpa using hp) (K.forward _ _ hp h)
    · exact K.forward _ _ hp h
    · exact K.forward _ _ hp h
    · exact K.forward _ _ hp h
    · exact K.forward _ _ hp h
    all_goals exact h

theorem Kept.receive {P : State → Prop} (K : Kept P) (port : Port) (bytes : List Byte) {s : State}
    (hp : s.phase = .running) (h : P s) : P (s.receive port bytes) := by
  unfold State.receive
  dsimp only
  split; · exact h
  unfold State.frameComplete
  split
  · exact K.countPort _ _ _ (by simpa using hp) (K.setReceiver _ _ _ hp h)
  · exact K.route _ _ (by simpa using hp) (K.countPort _ _ _ (by simpa using hp) (K.setReceiver _ _ _ hp h))

theorem Kept.takeStart {P : State → Prop} (K : Kept P) (port : Port) (data : List Byte) {s : State}
    (hp : s.phase = .running) (h : P s) : P (s.takeStart port data) := by
  unfold State.takeStart
  dsimp only
  split
  · exact K.setReceiver _ _ _ hp h
  · exact K.setReceiver _ _ _ (by simpa using hp) (K.countPort _ _ _ hp h)

theorem keeps_whileRunning {P : State → Prop} {change : State → State} {s : State}
    (hc : s.phase = .running → P s → P (change s)) (h : P s) : P (s.whileRunning change) := by
  unfold State.whileRunning
  split
  · rename_i hp; exact hc hp h
  · exact h

/-- Every command keeps what every block's work keeps. -/
theorem Kept.exec {P : State → Prop} (K : Kept P) {c : Instr} {s t : State} (h : P s)
    (ht : Sys2Proof.Machine.exec c s = .next t) : P t := by
  cases hf : frameOnLine c with
  | some r =>
    rw [exec_frame hf] at ht
    cases ht
    exact keeps_whileRunning (fun hp h => K.receive _ _ hp h) h
  | none =>
    cases c <;> simp [frameOnLine, requestOf] at hf <;> cases ht
    case powerOnReset.refl => exact K.powerOn _ _ _ h
    case pinResetAssert.refl =>
      by_cases hp : s.phase = .running
      · exact K.assertReset _ hp h
      · unfold State.assertReset; rw [if_neg hp]; exact h
    case pinResetRelease.refl => exact K.releaseReset _ _ _ h
    case frameAbandoned.refl => exact keeps_whileRunning (fun hp h => K.takeStart _ _ hp h) h
    case northTransmitComplete.refl => exact keeps_whileRunning (K.completeNorth _) h
    case southTransmitComplete.refl => exact keeps_whileRunning (K.completeCommand _) h
    case probeTransmitComplete.refl => exact keeps_whileRunning (K.completeProbe _) h
    case staleExpiry.refl => exact keeps_whileRunning (K.stale _ _) h
    case probeWaitExpiry.refl => exact keeps_whileRunning (K.probeWait _ _) h
    case holdExpiry.refl => exact keeps_whileRunning (K.hold _ _) h
    case leaseExpiry.refl => exact keeps_whileRunning (K.lease _) h
    case startSymbol.refl => exact keeps_whileRunning (fun hp h => K.takeStart _ _ hp h) h
    case timeBaseIncrement.refl => exact keeps_whileRunning (K.time _) h

/-- Every step keeps what every block's work keeps. -/
theorem Kept.step {P : State → Prop} (K : Kept P) {s t : State} (h : P s)
    (ht : Sys2Proof.Machine.step s = .next t) : P t := by
  unfold Sys2Proof.Machine.step at ht
  split at ht
  · cases ht; exact h
  · exact K.exec (K.pending _ _ h) ht

/-- A predicate on requests: kept by the discard, the renewal, the execution, the Replay Slot and the placement, it is kept by
the whole request (R126, R127, R134). The execution is asked for with the session its kind needs. -/
theorem keeps_takeRequest {P : State → Prop} {h : ReqHeader} {code : Byte} {args : List Byte} {s : State}
    (hdiscard : ∀ s n, P s → P { s with partCounters := { s.partCounters with requestsDiscarded := n } })
    (hrenew : ∀ s source, P s → P (s.renewLease source))
    (hrun : ∀ s kind source args, (kind.needsSession = true → s.isOwner source = true) →
      s.responseQ.length < Config.responseCapacity → P s → P (executeRequest kind source args s).1)
    (hfill : ∀ s source r, P s → P (s.fillReplay source r))
    (hplace : ∀ s dest r, (s.responseQ.length < Config.responseCapacity) → P s → P (s.placeResponse dest r))
    (hroom : ∀ kind source args s, (executeRequest kind source args s).1.responseQ.length ≤ s.responseQ.length)
    (hs : P s) : P (s.takeRequest h code args) := by
  unfold State.takeRequest
  split
  · exact hdiscard _ _ hs
  rename_i hq
  rw [not_le] at hq
  have hr := hrenew s h.source hs
  have hq' : (s.renewLease h.source).responseQ.length < Config.responseCapacity := by simpa using hq
  dsimp only
  split
  · exact hplace _ _ _ hq' hr
  · have hd : P (decideRequest h.source code args (s.renewLease h.source)).1 ∧
        (decideRequest h.source code args (s.renewLease h.source)).1.responseQ.length < Config.responseCapacity := by
      unfold decideRequest
      split; · exact ⟨hr, hq'⟩
      split; · exact ⟨hr, hq'⟩
      split; · exact ⟨hr, hq'⟩
      rename_i kind _ _ _ hno
      refine ⟨hrun _ _ _ _ (fun hk => ?_) hq' hr, lt_of_le_of_lt (hroom _ _ _ _) hq'⟩
      rw [if_pos hk] at hno
      unfold sessionRefusal at hno
      split at hno
      · cases hno
      · rename_i ses hses
        split at hno
        · rename_i ho
          exact State.isOwner_iff.mpr ⟨ses, hses, ho⟩
        · cases hno
    unfold State.answer
    exact hplace _ _ _ (by simpa using hd.2) (hfill _ _ _ hd.1)

end Sys2Proof.Machine
end

