-- ==== Sys2Proof/Laws/Responses.lean ====
section
/-! SUPPORT. The Response Queue never grows but by the placement of a request's own response. -/

namespace Sys2Proof.Machine

open Sys2Proof

theorem State.pickNorth_responseQ (s : State) : s.pickNorth.responseQ.length ≤ s.responseQ.length := by
  unfold State.pickNorth State.pickForward State.pickResponse State.pickReport State.pickNotice State.pickForward
  have ht : ∀ r (u : State), (State.takeReport r u).responseQ = u.responseQ := by
    intro r u; cases r with
    | overflow => rfl
    | entry a k => simp only [State.takeReport, State.takeEntryReport]; split <;> rfl
  split
  · split <;> simp
  · split
    · split
      · split
        · split <;> simp
        · simp
      · rw [ht]
    · rename_i h; simp [h]

theorem State.northJoined_responseQ (s : State) : s.northJoined.responseQ.length ≤ s.responseQ.length := by
  unfold State.northJoined; split
  · exact State.pickNorth_responseQ s
  · exact le_rfl

theorem State.placeReference_responseQ (r : Reference) (s : State) : (s.placeReference r).responseQ.length ≤ s.responseQ.length := by
  unfold State.placeReference; split
  · exact le_rfl
  · exact State.northJoined_responseQ _

theorem State.changeAlarm_responseQ (a : ChannelAddr) (k : AlarmKind) (g : AlarmEntry → AlarmEntry) (s : State) :
    (s.changeAlarm a k g).responseQ.length ≤ s.responseQ.length := State.placeReference_responseQ _ _

theorem State.offerNotice_responseQ (n : Notice) (s : State) :
    (s.offerNotice n).responseQ.length ≤ s.responseQ.length := by
  unfold State.offerNotice; split
  · exact State.northJoined_responseQ _
  · exact le_rfl

theorem foldl_responseQ {α : Type} (f : State → α → State) (h : ∀ s a, (f s a).responseQ.length ≤ s.responseQ.length)
    (xs : List α) (s : State) : (xs.foldl f s).responseQ.length ≤ s.responseQ.length := by
  induction xs generalizing s with
  | nil => exact le_rfl
  | cons x xs ih => exact (ih _).trans (h s x)

theorem State.retire_responseQ (a : ChannelAddr) (s : State) : (s.retire a).responseQ.length ≤ s.responseQ.length :=
  foldl_responseQ _ (fun _ _ => State.changeAlarm_responseQ _ _ _ _) _ _

theorem State.abortCapture_responseQ (s : State) : s.abortCapture.responseQ.length ≤ s.responseQ.length :=
  State.offerNotice_responseQ _ _

theorem State.applyItem_responseQ (s : State) (i : StagedItem) : (s.applyItem i).responseQ.length ≤ s.responseQ.length := by
  cases i <;> simp only [State.applyItem, State.replaceConfig, State.deleteConfig] <;> split
  · exact State.retire_responseQ _ _
  · exact le_rfl
  · unfold State.captureRowDeleted; split
    · exact (State.abortCapture_responseQ _).trans (State.retire_responseQ _ _)
    · exact State.retire_responseQ _ _
  · exact le_rfl

/-- Executing a request never adds a response: its own is placed after it (R127, R161). -/
theorem executeRequest_responseQ (k : RequestKind) (source : NodeAddr) (args : List Byte) (s : State) :
    (executeRequest k source args s).1.responseQ.length ≤ s.responseQ.length := by
  cases k <;> simp only [executeRequest]
  case readPart => exact le_rfl
  case readCounters => unfold doReadCounters; dsimp only; split; · exact le_rfl
                       split <;> first | exact le_rfl | (split <;> exact le_rfl)
  case listRows => exact le_rfl
  case readRow => unfold doReadRow; split <;> exact le_rfl
  case readState => unfold doReadState; split <;> exact le_rfl
  case readAlarms => exact le_rfl
  case readClass => unfold doReadClass; split <;> exact le_rfl
  case readCapture => unfold doReadCapture; dsimp only; split; · exact le_rfl
                      split; · exact le_rfl
                      split <;> exact le_rfl
  case readEnrolment => exact le_rfl
  case openSession => unfold doOpenSession; dsimp only; split; · exact le_rfl
                      split; · exact le_rfl
                      split <;> exact le_rfl
  case closeSession => unfold doCloseSession; split; · exact le_rfl
                       split <;> exact le_rfl
  case stageRow => unfold doStageRow stageItem; dsimp only; split; · exact le_rfl
                   split; · exact le_rfl
                   split <;> exact le_rfl
  case stageDelete => unfold doStageDelete stageItem; dsimp only; split; · exact le_rfl
                      split <;> exact le_rfl
  case discard => exact le_rfl
  case commit => unfold doCommit; split; · exact le_rfl
                 exact foldl_responseQ _ State.applyItem_responseQ _ _
  case writeClass => unfold doWriteClass; dsimp only; split; · exact le_rfl
                     split; · exact le_rfl
                     split; · exact le_rfl
                     split <;> exact le_rfl
  case deleteClass => unfold doDeleteClass; dsimp only; split <;> exact le_rfl
  case setPart => unfold doSetPart; split <;> exact le_rfl
  case ackAlarm =>
    unfold doAckAlarm ackOverflow ackEntry
    dsimp only
    split
    · split
      · exact le_rfl
      · split
        · exact State.placeReference_responseQ _ _
        · exact le_rfl
    · split; · exact le_rfl
      split; · exact le_rfl
      split; · exact le_rfl
      split; · exact le_rfl
      split <;> first | exact le_rfl | exact State.changeAlarm_responseQ _ _ _ _
  case tripRelease => unfold doTripRelease; split; · exact le_rfl
                      split <;> exact le_rfl
  case enrol => unfold doEnrol State.createEnrol; dsimp only; split; · exact le_rfl
                split; · exact le_rfl
                split <;> split <;> simp
  case captureArm => unfold doCaptureArm; dsimp only; split; · exact le_rfl
                     split; · exact le_rfl
                     split; · exact le_rfl
                     split <;> exact le_rfl
  case captureTrigger => unfold doCaptureTrigger; split <;> exact le_rfl
  case captureAbort => unfold doCaptureAbort; dsimp only; split <;> first | exact le_rfl | exact State.abortCapture_responseQ s
  case captureRelease => unfold doCaptureRelease; split <;> exact le_rfl
  case reset => unfold doReset; split <;> first | exact le_rfl | exact Nat.zero_le _

end Sys2Proof.Machine
end

