-- ==== Sys2Proof/Laws/Samples.lean ====
section
/-! SUPPORT. A SAMPLE frame from the wire to the record: the fields read back, the row found, and the form of the record's work on
a valid and on an invalid sample. -/

namespace Sys2Proof.Machine

open Sys2Proof

theorem rowAt_addr {rows : List Row} {addr : ChannelAddr} {r : Row} (h : rowAt rows addr = some r) :
    r.config.addr = addr := by
  unfold rowAt at h; simpa using List.find?_some h

theorem rowAt_mem {rows : List Row} {addr : ChannelAddr} {r : Row} (h : rowAt rows addr = some r) : r ∈ rows :=
  List.mem_of_find?_eq_some h

/-- The fields of a SAMPLE frame are read back (R178). -/
theorem sampleOf_sampleFrame (dest source channel seq flags : Byte) (value : Value) :
    sampleOf (sampleFrame dest source channel seq flags value) = { addr := source ++ channel, seq, flags, value } := by
  have : halfAt ([channel, seq, flags] ++ be16 value) 3 = value := half_append value
  simp only [sampleOf, sampleFrame, buildFrame, samplePayload, this]
  rfl

/-- The fields of a DESCRIPTOR frame are read back (R178). -/
theorem descriptorOf_descriptorFrame (dest source channel classCode : Byte) (low high : Value) (period : BitVec 16) :
    descriptorOf (descriptorFrame dest source channel classCode low high period)
      = { addr := source ++ channel, classCode, rangeLow := low, rangeHigh := high, period } := by
  have h1 : halfAt (descriptorPayload channel classCode low high period) 2 = low := half_append low
  have h2 : halfAt (descriptorPayload channel classCode low high period) 4 = high := half_append high
  have h3 : halfAt (descriptorPayload channel classCode low high period) 6 = period := half_append period
  simp only [descriptorOf, descriptorFrame, buildFrame, h1, h2, h3]
  rfl

/-- A SAMPLE frame received is one arrival at the engine (R22). -/
theorem exec_sample {dest source channel seq flags : Byte} {value : Value} {s : State}
    (h : s.accepts .south (sampleFrame dest source channel seq flags value).bytes) :
    exec (.sampleArrival dest source channel seq flags value) s
      = .next (State.sampleArrived (sampleFrame dest source channel seq flags value) (s.received .south)) := by
  show Host.Outcome.next _ = _
  rw [State.whileRunning_running h.1]
  exact congrArg _ (State.receive_built (k := .sample) (d := dest) (q := source)
    (p := samplePayload channel seq flags value) (s := s) rfl h)

/-- A DESCRIPTOR frame received is offered north and handed to the Enrolment Unit (R113, R173). -/
theorem exec_descriptor {dest source channel classCode : Byte} {low high : Value} {period : BitVec 16} {s : State}
    (h : s.accepts .south (descriptorFrame dest source channel classCode low high period).bytes) :
    exec (.descriptorArrival dest source channel classCode low high period) s
      = .next (State.descriptorArrived { addr := source ++ channel, classCode, rangeLow := low, rangeHigh := high, period }
          ((s.received .south).offerForward (descriptorFrame dest source channel classCode low high period))) := by
  show Host.Outcome.next _ = _
  rw [State.whileRunning_running h.1]
  have := State.receive_built (k := .descriptor) (d := dest) (q := source)
    (p := descriptorPayload channel classCode low high period) (s := s) rfl h
  rw [← descriptorOf_descriptorFrame dest source channel classCode low high period]
  exact congrArg _ this

/-- The raw frame of a SAMPLE frame (R36). -/
theorem rawFrame_sampleFrame (dest source channel seq flags : Byte) (value : Value) (gap : Bool) :
    rawFrame (sampleFrame dest source channel seq flags value) gap
      = sampleFrame dest source channel seq (if gap then flags ||| 0x04 else flags) value := by
  unfold rawFrame
  rw [sampleOf_sampleFrame]
  rfl

/-- An invalid sample is recorded and no more (R30). -/
theorem conditionRecord_invalid {rows : List Row} {c : RowConfig} {now : Time} {m : Sample} {r : Runtime}
    (h : m.valid = false) :
    conditionRecord rows c now m r = { rt := recordSequence m r, issued := [], digest := none } := by
  unfold conditionRecord; dsimp only; rw [if_neg (by simp [h])]

/-- The window, the last digest, LOW, HIGH and the gate of a record: what steps 1 to 3 leave alone. -/
def Runtime.windowed (r : Runtime) :
    Int × Nat × Option Value × Option Value × Option Digest × BitVec 16 × Watch × Watch × Bool :=
  (r.sum, r.count, r.windowMin, r.windowMax, r.lastDigest, r.digestNumber, r.low, r.high, r.gateOpen)

theorem restartStale_windowed (c : RowConfig) (now : Time) (r : Runtime) :
    (restartStale c now r).windowed = r.windowed := by
  unfold restartStale; split <;> rfl

theorem evaluateTrip_windowed (c : RowConfig) (v : Value) (r : Runtime) : (evaluateTrip c v r).windowed = r.windowed := by
  unfold evaluateTrip; split <;> rfl

/-- A valid sample's work: step 4 on a record whose window, LOW, HIGH and gate are those before, after the STALE and TRIP events
(R31). -/
theorem conditionRecord_valid {rows : List Row} {c : RowConfig} {now : Time} {m : Sample} {r : Runtime}
    (h : m.valid = true) :
    ∃ t : Runtime, t.windowed = r.windowed ∧
      conditionRecord rows c now m r =
        { accumulateStep rows c now m.value t with
          issued :=
            edge c.addr .stale now m.value r.stale (restartStale c now (recordSequence m r)).stale ++
              edge c.addr .trip now m.value r.trip.active t.trip.active ++
              (accumulateStep rows c now m.value t).issued } := by
  refine ⟨evaluateTrip c m.value (restartStale c now (recordSequence m r)), ?_, ?_⟩
  · rw [evaluateTrip_windowed, restartStale_windowed]; rfl
  · have ht : (restartStale c now (recordSequence m r)).trip = r.trip := by unfold restartStale; split <;> rfl
    unfold conditionRecord; dsimp only; rw [if_pos h, ← ht]; rfl

/-- An event that an edge issues is of the edge's channel, kind and time (R55). -/
theorem edge_mem {addr : ChannelAddr} {kind : AlarmKind} {time : Time} {v : Value} {before after : Bool} {e : AlarmEvent}
    (h : e ∈ edge addr kind time v before after) :
    (e = .raise addr kind time v ∧ before = false ∧ after = true) ∨
      (e = .clear addr kind time ∧ before = true ∧ after = false) := by
  cases before <;> cases after <;> simp [edge] at h <;> simp [h]

/-- An edge issues at most one event (R56). -/
theorem edge_length (addr : ChannelAddr) (kind : AlarmKind) (time : Time) (v : Value) (before after : Bool) :
    (edge addr kind time v before after).length ≤ 1 := by
  cases before <;> cases after <;> simp [edge]

/-- The event an edge issues is of the edge's kind (R55). -/
theorem edge_kind {addr : ChannelAddr} {kind : AlarmKind} {time : Time} {v : Value} {before after : Bool} {e : AlarmEvent}
    (h : e ∈ edge addr kind time v before after) : e.kind = kind := by
  rcases edge_mem h with ⟨rfl, _⟩ | ⟨rfl, _⟩ <;> rfl

end Sys2Proof.Machine
end

