-- ==== Sys2Proof/Laws/Tables.lean ====
section
/-! SUPPORT. The tables as lists: what insertion, change and deletion do to order, length and lookup (R1, R2, R16 to R18). -/

namespace Sys2Proof.Machine

open Sys2Proof

/-- Rows in strictly ascending order of address (R1). -/
abbrev Ascending (rows : List Row) : Prop := rows.Pairwise (fun a b => a.config.addr < b.config.addr)

theorem mem_insertRow {r x : Row} {rows : List Row} : x ∈ insertRow r rows ↔ x = r ∨ x ∈ rows := by
  induction rows with
  | nil => simp [insertRow]
  | cons y ys ih =>
    unfold insertRow
    split
    · simp
    · simp only [List.mem_cons, ih]; tauto

theorem insertRow_length (r : Row) (rows : List Row) : (insertRow r rows).length = rows.length + 1 := by
  induction rows with
  | nil => rfl
  | cons y ys ih => unfold insertRow; split <;> simp [ih]

theorem rowAt_none {rows : List Row} {addr : ChannelAddr} :
    rowAt rows addr = none ↔ ∀ r ∈ rows, r.config.addr ≠ addr := by
  simp [rowAt]

/-- An insert of an absent address keeps the order (R1, R16). -/
theorem insertRow_ascending {r : Row} {rows : List Row} (h : Ascending rows) (hn : rowAt rows r.config.addr = none) :
    Ascending (insertRow r rows) := by
  induction rows with
  | nil => simp [insertRow, Ascending]
  | cons y ys ih =>
    have hy : y.config.addr ≠ r.config.addr := (rowAt_none.mp hn) y (List.mem_cons_self ..)
    have hys : rowAt ys r.config.addr = none := rowAt_none.mpr fun z hz => (rowAt_none.mp hn) z (List.mem_cons_of_mem _ hz)
    rw [Ascending, List.pairwise_cons] at h
    unfold insertRow
    split
    · rename_i hlt
      rw [Ascending, List.pairwise_cons, List.pairwise_cons]
      refine ⟨fun z hz => ?_, h.1, h.2⟩
      rcases List.mem_cons.mp hz with rfl | hz
      · exact hlt
      · exact BitVec.lt_trans hlt (h.1 z hz)
    · rename_i hge
      rw [Ascending, List.pairwise_cons]
      refine ⟨fun z hz => ?_, ih h.2 hys⟩
      rcases mem_insertRow.mp hz with heq | hz
      · have hne : y.config.addr.toNat ≠ z.config.addr.toNat := fun he => hy (heq ▸ BitVec.eq_of_toNat_eq he)
        rw [← heq] at hge
        rw [BitVec.lt_def] at hge ⊢
        omega
      · exact h.1 z hz

/-- In a table in order, a row is the one found at its address (R1, R2). -/
theorem rowAt_of_mem {rows : List Row} (h : Ascending rows) {r : Row} (hr : r ∈ rows) :
    rowAt rows r.config.addr = some r := by
  induction rows with
  | nil => cases hr
  | cons y ys ih =>
    rw [Ascending, List.pairwise_cons] at h
    rcases List.mem_cons.mp hr with rfl | hr
    · simp [rowAt]
    · have : y.config.addr ≠ r.config.addr := fun he => by
        have := h.1 r hr
        rw [he] at this
        exact BitVec.lt_irrefl _ this
      have hf := ih h.2 hr
      unfold rowAt at hf ⊢
      rw [List.find?_cons_of_neg (by simpa using this)]
      exact hf

/-- A change of a row in its place keeps the addresses, and so the order, when it keeps the row's address (R17). -/
theorem changeRow_addrs {rows : List Row} {addr : ChannelAddr} {change : Row → Row}
    (h : ∀ r ∈ rows, r.config.addr = addr → (change r).config.addr = addr) :
    (changeRow rows addr change).map (·.config.addr) = rows.map (·.config.addr) := by
  unfold changeRow
  rw [List.map_map]
  refine List.map_congr_left fun r hr => ?_
  simp only [Function.comp]
  split
  · rename_i he
    have he' : r.config.addr = addr := by simpa using he
    rw [h r hr he', he']
  · rfl

theorem ascending_iff {rows : List Row} :
    Ascending rows ↔ (rows.map (·.config.addr)).Pairwise (· < ·) := by
  rw [List.pairwise_map]

@[simp] theorem changeRow_length (rows : List Row) (addr : ChannelAddr) (change : Row → Row) :
    (changeRow rows addr change).length = rows.length := by simp [changeRow]

theorem mem_changeRow {rows : List Row} {addr : ChannelAddr} {change : Row → Row} {x : Row} :
    x ∈ changeRow rows addr change ↔
      (∃ r ∈ rows, r.config.addr = addr ∧ x = change r) ∨ (x ∈ rows ∧ x.config.addr ≠ addr) := by
  unfold changeRow
  rw [List.mem_map]
  constructor
  · rintro ⟨r, hr, rfl⟩
    by_cases h : r.config.addr = addr
    · exact Or.inl ⟨r, hr, h, by simp [h]⟩
    · exact Or.inr (by simp [h, hr])
  · rintro (⟨r, hr, h, rfl⟩ | ⟨hx, h⟩)
    · exact ⟨r, hr, by simp [h]⟩
    · exact ⟨x, hx, by simp [h]⟩

/-- A deletion keeps the order (R18). -/
theorem deleteRow_ascending {rows : List Row} (h : Ascending rows) (addr : ChannelAddr) : Ascending (deleteRow rows addr) :=
  h.filter _

end Sys2Proof.Machine
end

