-- ==== Sys2Proof/WellFormed.lean ====
section
/-! DEFINITION. Which command terms are events of their rows: the checks that need no state. exec does not ask them: a term
that fails one runs as the bytes it stands for (log entry 7). -/

namespace Sys2Proof

open Sys2Proof.Machine

/-- The argument bytes of a request fit a MGMT_REQ frame: 0 to 46 bytes (R125, R172). -/
def argsFit (args : List Byte) : Bool := args.length ≤ 46

/-- Whether a command term is an event of its row. -/
def WellFormed (c : Instr) : Bool :=
  match c with
  | .powerOnReset _ _ => true
  | .pinResetAssert => true
  | .pinResetRelease _ _ => true
  | .sampleArrival _ _ _ _ _ _ => true
  | .descriptorArrival _ _ _ _ _ _ _ => true
  | .northboundTransit kind _ _ payload => lengthAllowed (northFrameKind kind) payload.length
  | .southboundTransit kind _ _ payload => lengthAllowed (southFrameKind kind) payload.length
  | .invalidFrame port bytes => (validate port (bytes.take Config.frameBytesMax) bytes.length).toOption.isNone
  | .frameAbandoned _ _ => true
  | .northTransmitComplete => true
  | .southTransmitComplete => true
  | .probeTransmitComplete => true
  | .staleExpiry _ => true
  | .probeWaitExpiry _ => true
  | .holdExpiry _ => true
  | .leaseExpiry => true
  | .readPart _ args => argsFit args
  | .readCounters _ args => argsFit args
  | .listRows _ args => argsFit args
  | .readRow _ args => argsFit args
  | .readState _ args => argsFit args
  | .readAlarms _ args => argsFit args
  | .readClass _ args => argsFit args
  | .readCapture _ args => argsFit args
  | .readEnrolment _ args => argsFit args
  | .openSession _ args => argsFit args
  | .closeSession _ args => argsFit args
  | .stageRow _ args => argsFit args
  | .stageDelete _ args => argsFit args
  | .discard _ args => argsFit args
  | .commit _ args => argsFit args
  | .writeClass _ args => argsFit args
  | .deleteClass _ args => argsFit args
  | .setPart _ args => argsFit args
  | .ackAlarm _ args => argsFit args
  | .tripRelease _ args => argsFit args
  | .enrol _ args => argsFit args
  | .captureArm _ args => argsFit args
  | .captureTrigger _ args => argsFit args
  | .captureAbort _ args => argsFit args
  | .captureRelease _ args => argsFit args
  | .resetRuntime _ args => argsFit args && args != [0x02]
  | .resetTables _ args => argsFit args && args != [0x01]
  | .unknownRequest _ code args => argsFit args && (requestKindOf code).isNone
  | .startSymbol _ _ => true
  | .timeBaseIncrement => true

end Sys2Proof
end

