-- ==== Sys2Proof/Tests/Slice0.lean ====
section
/-! SUPPORT. Tests: ill-formed terms refused, values worked out by hand from the spec, and for each statement with hypotheses
a state and operands that meet them, clause by clause. -/

namespace Sys2Proof.Machine.Tests

open Sys2Proof Sys2Proof.Machine

set_option Elab.async false

/-! ### Fixtures -/

/-- The header of a request from node 1 to the part, node 0x10. -/
def asker : ReqHeader := { dest := 0x10, source := 0x01, id := 0x07 }

/-- A frame that keeps the North transmitter busy. -/
def sent : Frame := buildFrame .mgmtRsp 0x01 0x20 [1, 2, 3]

/-- A running part with both receivers in a frame, the North transmitter busy, and node 1's session. -/
def base : State :=
  { State.reset with
    node := 0x10, northTx := some sent, northRx := .inFrame [] 0, southRx := .inFrame [] 0,
    session := some { owner := 0x01, lease := 100, deadline := 100 } }

/-- A row configuration at 0x2001 of depth 1 with a limit of each kind. -/
def watched : RowConfig :=
  { addr := 0x2001, origin := .managed, classCode := none, policy := .pass, depth := 1, lowLimit := some (-10),
    highLimit := some 10, hysteresis := 2, persistence := 1, tripLimit := some 20, tripPersistence := 1,
    tripOutput := true, staleWindow := 10, gate := none, range := none }

/-- The state with this one row, its record fresh. -/
def withRow (c : RowConfig) (s : State) : State := { s with rows := [freshRow c 0] }

/-- The fresh record of the watched row. -/
def fresh : Runtime := freshRecord watched 0

/-- A row of an address, with the watched row's other fields. -/
def rowNamed (n : Nat) : Row := freshRow { watched with addr := BitVec.ofNat 16 n } 0

/-- An Enrolment List entry of 0x2001 in PROBING, its wait running until 5. -/
def waiting : EnrolEntry :=
  { addr := 0x2001, state := .probing, attempts := 1, probeOwed := false, deadline := some 5, reason := none, created := 0 }

/-- An alarm entry of 0x2001 in ACTIVE_UNACK, its report sent. -/
def raised : AlarmEntry :=
  { addr := 0x2001, kind := .high, state := .activeUnack, episode := 3, occurrence := 1, cause := none, firstActive := 0,
    lastChange := 0, extreme := 11, reportOwed := false }

/-- A class of code 5. -/
def sensor : ClassEntry :=
  { code := 5, policy := .digest, depth := 4, lowPercent := some 10, highPercent := some 90, hysteresisPercent := 5,
    persistence := 2, tripPercent := some 100, tripPersistence := 1, tripOutput := false, staleMode := .auto }

/-- The bytes of a header and payload closed with their Check. -/
def closed (bs : List Byte) : List Byte := bs ++ be16 (crc16 bs)

/-- A valid sample of 0x2001. -/
def reading (seq : Byte) (value : Value) : Sample := { addr := 0x2001, seq, flags := 0x01, value }

/-- A port whose receiver has begun a frame accepts any frame. -/
theorem accepts_begun {port : Port} {bytes : List Byte} {s : State} (hp : s.phase = .running)
    (hr : s.receiver port = .inFrame [] 0) : s.accepts port bytes :=
  ⟨hp, Or.inr ⟨0, Nat.zero_le _, by simpa using hr⟩⟩

/-- So does a port whose receiver is IDLE. -/
theorem accepts_idle {port : Port} {bytes : List Byte} {s : State} (hp : s.phase = .running) (hr : s.receiver port = .idle) :
    s.accepts port bytes := ⟨hp, Or.inl hr⟩

/-- What makes a request of a code admitted in the fixtures. -/
theorem admits_begun {code : Byte} {args : List Byte} {s : State} (hp : s.phase = .running)
    (hr : s.northRx = .inFrame [] 0) (hn : s.node = 0x10) (hq : s.responseQ = []) (hl : args.length ≤ 46) :
    s.admits asker code args :=
  ⟨accepts_begun hp hr, hl, Or.inl (by simp [State.ownAddress, hn, asker]), by simp [hq, Config.responseCapacity]⟩

theorem no_repeat {h : ReqHeader} {s : State} (hr : s.replay = none) : ¬ s.repeats h := by
  rintro ⟨_, r, h1, _⟩
  rw [hr] at h1
  cases h1

/-- What makes a request run in the fixtures. -/
theorem runs_begun {kind : RequestKind} {args : List Byte} {s : State} (hp : s.phase = .running)
    (hr : s.northRx = .inFrame [] 0) (hn : s.node = 0x10) (hq : s.responseQ = []) (hy : s.replay = none)
    (hl : args.length = kind.argLength)
    (hs : kind.needsSession = true → ∃ ses, s.session = some ses ∧ ses.owner = 0x01) : s.runs kind asker args :=
  ⟨admits_begun hp hr hn hq (by rw [hl]; cases kind <;> decide), no_repeat hy, hl, hs⟩

/-- The same with node 1's session open. -/
theorem runs_owned {kind : RequestKind} {args : List Byte} {s : State} (hp : s.phase = .running)
    (hr : s.northRx = .inFrame [] 0) (hn : s.node = 0x10) (hq : s.responseQ = []) (hy : s.replay = none)
    (hl : args.length = kind.argLength) (hs : s.session = base.session) : s.runs kind asker args :=
  runs_begun hp hr hn hq hy hl fun _ => ⟨_, hs, rfl⟩

/-- The same for a request that needs no session. -/
theorem runs_free {kind : RequestKind} {args : List Byte} {s : State} (hp : s.phase = .running)
    (hr : s.northRx = .inFrame [] 0) (hn : s.node = 0x10) (hq : s.responseQ = []) (hy : s.replay = none)
    (hl : args.length = kind.argLength) (hs : kind.needsSession = false) : s.runs kind asker args :=
  runs_begun hp hr hn hq hy hl fun h => by rw [hs] at h; cases h

/-! ### Well-formedness: each check refuses an ill-formed term -/

theorem test_wf_northbound : WellFormed (.northboundTransit .digest 0 1 [1, 2, 3]) = false := by decide
theorem test_wf_southbound : WellFormed (.southboundTransit .mgmtReq 0x20 1 [7]) = false := by decide
theorem test_wf_invalid_frame :
    WellFormed (.invalidFrame .south (sampleFrame 0 0x20 1 1 1 5).bytes) = false := by decide +kernel
theorem test_wf_arguments : WellFormed (.readPart asker (List.replicate 47 0)) = false := by decide
theorem test_wf_reset_runtime : WellFormed (.resetRuntime asker [2]) = false := by decide
theorem test_wf_reset_tables : WellFormed (.resetTables asker [1]) = false := by decide
theorem test_wf_unknown_request : WellFormed (.unknownRequest asker 0x3F [1]) = false := by decide
theorem test_wf_accepted :
    WellFormed (.invalidFrame .north (sampleFrame 0 0x20 1 1 1 5).bytes) = true ∧
      WellFormed (.unknownRequest asker 0x40 []) = true := by decide +kernel

/-! ### Values by hand -/

/-- The Check of the nine digits (R170). -/
theorem test_check_of_digits :
    crc16 [0x31, 0x32, 0x33, 0x34, 0x35, 0x36, 0x37, 0x38, 0x39] = 0x29B1 := by decide +kernel

/-- A step on an empty queue idles (log entry 1). -/
theorem test_idle : step State.reset = .next State.reset := rfl

/-- A sample beyond the trip limit of a PASS row: latch, alarms, raw frame (R31, R65, R68, R84). -/
theorem test_sample :
    ∃ t, exec (.sampleArrival 0 0x20 1 0 1 30) (withRow watched base) = .next t ∧ t.tripLine = .asserted ∧
      t.forwardQ = [sampleFrame 0 0x20 1 0 1 30] ∧ t.alarms.map (·.kind) = [.trip, .high] ∧
      t.alertLine = .asserted := ⟨_, rfl, by decide +kernel⟩

/-- A stale expiry raises STALE, and a restarted row does not expire (R73, R185). -/
theorem test_stale_expiry :
    (∃ t, exec (.staleExpiry 0x2001) { withRow watched base with now := 10 } = .next t ∧
      t.alarms.map (·.kind) = [.stale]) ∧
    ∃ t, exec (.staleExpiry 0x2001) { withRow watched base with now := 9 } = .next t ∧ t.alarms = [] :=
  ⟨⟨_, rfl, by decide +kernel⟩, ⟨_, rfl, by decide +kernel⟩⟩

/-- Enrolment from an unknown sample to the row: entry and probe, descriptor, row (R108, R110, R113, R119). -/
theorem test_enrolment :
    (∃ t, exec (.sampleArrival 0 0x20 1 0 1 30) { base with settings := { base.settings with mode := .auto } } = .next t ∧
      t.southTx = .probe 0x2001 (probeFrame 0x10 0x2001)) ∧
    ∃ t, exec (.descriptorArrival 0 0x20 1 5 0 1000 25) { base with classes := [sensor], enrol := [waiting] } = .next t ∧
      t.rows.map (·.config.highLimit) = [some 900] ∧ t.rows.map (·.config.staleWindow) = [100] ∧ t.enrol = [] ∧
      t.noticeQ.map (·.kind) = [.enrolled] := ⟨⟨_, rfl, by decide +kernel⟩, ⟨_, rfl, by decide +kernel⟩⟩

/-- A row staged, then committed (R135, R138). -/
theorem test_staging :
    (∃ t, exec (.stageRow asker (rowImage watched)) base = .next t ∧ t.staging = [.row watched] ∧
      t.responseQ = [responseFrame 0x10 0x01 { id := 7, code := 0x20, status := .ok, data := [0, 1] }]) ∧
    ∃ t, exec (.commit asker []) { base with staging := [.row watched, .delete 0x2002] } = .next t ∧
      t.rows = [freshRow watched 0] ∧ t.staging = [] ∧
      t.responseQ = [responseFrame 0x10 0x01 { id := 7, code := 0x23, status := .ok, data := [1, 0, 0] }] :=
  ⟨⟨_, rfl, by decide +kernel⟩, ⟨_, rfl, by decide +kernel⟩⟩

/-- A broadcast LIST_ROWS right after reset, to a part with no own address: answered at once, and passed on (R174, R183). -/
theorem test_broadcast_from_reset :
    ∃ t, exec (.listRows { asker with dest := 0xFF } [0]) State.reset = .next t ∧
      t.northTx = some (responseFrame 0 0x01 { id := 7, code := 0x03, status := .ok, data := [0] }) ∧
      t.southTx = .command (requestFrame { asker with dest := 0xFF } 0x03 [0]) ∧ t.northRx = .idle :=
  ⟨_, rfl, by decide +kernel⟩

/-- READ_PART's 19 bytes (R143, R181). -/
theorem test_read_part :
    ∃ t, exec (.readPart asker []) base = .next t ∧
      t.responseQ = [responseFrame 0x10 0x01
        { id := 7, code := 0x01, status := .ok, data := [0, 0, 20, 3, 1, 1, 0, 100, 0, 0, 0, 0, 0, 0, 0, 0, 0, 0, 0] }] :=
  ⟨_, rfl, by decide +kernel⟩

/-- An abort under an idle North transmitter: the notice leaves, the response waits (log entry 26). -/
theorem test_abort_idle :
    ∃ t, exec (.captureAbort asker [])
        { base with northTx := none, capture := { Capture.initial with state := .armed, channel := some 0x2001 } } = .next t ∧
      t.northTx = some (noticeFrame 0x10 0 { kind := .captureAborted, addr := 0x2001, detail := 0, time := 0 }) ∧
      t.responseQ = [responseFrame 0x10 0x01 { id := 7, code := 0x3A, status := .ok, data := [0, 0] }] :=
  ⟨_, rfl, by decide +kernel⟩

/-! ### The hypotheses of the statements are met, clause by clause -/

theorem witness_StepRunsFrontCommand :
    ({ base with pending := [.leaseExpiry] } : State).pending = .leaseExpiry :: [] := rfl

theorem witness_PinReset :
    base.phase = .running ∧ (base.assertReset.phase ≠ .running ∧ isPinCommand .leaseExpiry = false) ∧
      base.assertReset.phase = .pinReset := by decide +kernel

theorem witness_NodeAddressHeld :
    base.assertReset.phase ≠ .running ∧
      (isPinCommand .leaseExpiry = false ∧ exec .leaseExpiry base = .next base) ∧
      exec .pinResetAssert base = .next base.assertReset :=
  ⟨by decide +kernel, ⟨rfl, rfl⟩, rfl⟩

theorem witness_TimeBaseIncrement :
    ({ base with now := 0xFFFFFFFF } : State).phase = .running ∧ base.assertReset.phase ≠ .running ∧
      (isPinCommand .leaseExpiry = false ∧ Instr.leaseExpiry ≠ .timeBaseIncrement ∧ exec .leaseExpiry base = .next base) :=
  ⟨rfl, by decide +kernel, rfl, by decide, rfl⟩

theorem witness_ReceiverSymbols :
    base.phase = .running ∧ State.reset.phase = .running ∧ State.reset.receiver .north = .idle ∧
      base.receiver .south = .inFrame [] 0 ∧
      frameOnLine (.invalidFrame .north []) = some (.north, []) ∧ base.accepts .north [] ∧ State.reset.accepts .north [] ∧
      frameOnLine (.readPart asker []) = some (.north, (requestFrame asker 1 []).bytes) ∧
      base.accepts .north (requestFrame asker 1 []).bytes := by
  and_intros <;> first | exact accepts_begun rfl rfl | exact accepts_idle rfl rfl | decide +kernel

/-- Frames that fail one check each, at the ends of the lengths (R171). -/
theorem witness_InvalidFrameCounted :
    let measured (bytes : List Byte) :=
      6 ≤ bytes.length ∧ bytes.length ≤ 54 ∧
        crc16 (bytes.take (bytes.length - 2)) = halfAt bytes (bytes.length - 2) ∧ (byteAt bytes 3).toNat ≤ 48 ∧
        (byteAt bytes 3).toNat = bytes.length - 6
    let short := closed [1, 2, 3]
    let long : List Byte := List.replicate 55 0
    let unclosed : List Byte := [0, 0, 0, 0, 0, 0]
    let mismeasured := closed [1, 0, 0, 1]
    let unknown := closed [0x0A, 0, 0, 0]
    let astray := closed [0x04, 0, 0, 0]
    let empty := closed [0x01, 0, 0, 0]
    base.accepts .south short ∧ base.accepts .south long ∧ ¬ 6 ≤ short.length ∧ ¬ long.length ≤ 54 ∧
      (6 ≤ unclosed.length ∧ crc16 (unclosed.take 4) ≠ halfAt unclosed 4) ∧
      (crc16 (mismeasured.take 4) = halfAt mismeasured 4 ∧ (byteAt mismeasured 3).toNat ≠ mismeasured.length - 6) ∧
      (measured unknown ∧ frameKindOf (byteAt unknown 0) = none) ∧
      (measured astray ∧ frameKindOf (byteAt astray 0) = some .command ∧ arrivesOn .command ≠ .south) ∧
      (measured empty ∧ frameKindOf (byteAt empty 0) = some .sample ∧ arrivesOn .sample = .south ∧
        lengthAllowed .sample 0 = false) ∧
      (9 < (0x0A : Byte).toNat ∧ 9 < (0xFF : Byte).toNat) := by
  intro measured short long unclosed mismeasured unknown astray empty
  exact ⟨accepts_begun rfl rfl, accepts_begun rfl rfl, by decide +kernel⟩

theorem witness_FrameReadBack :
    (validate .south (sampleFrame 0 0x20 1 1 1 5).bytes 11).toOption = some (sampleFrame 0 0x20 1 1 1 5) ∧
      (validate .south (sampleFrame 0 0x20 1 1 1 5).bytes 10).toOption = none := by decide +kernel

/-- The first byte, and the last byte of the longest frame, changed. -/
theorem witness_OneByteErrorFound :
    let short := (buildFrame .command 0 1 []).bytes
    let long := (buildFrame .command 0 1 (List.replicate 48 0)).bytes
    (lengthAllowed .command 0 = true ∧ 0 < short.length ∧ (5 : Byte) ≠ byteAt short 0) ∧
      (lengthAllowed .command 48 = true ∧ 53 < long.length ∧ byteAt long 53 + 1 ≠ byteAt long 53) ∧
      base.accepts .north (short.set 0 5) := by
  intro short long
  exact ⟨by decide +kernel, ⟨by decide, by simp [long, Frame.bytes_length, buildFrame], by simp⟩, accepts_begun rfl rfl⟩

theorem witness_TransitQueued :
    let idle : State := { base with northTx := none }
    let f := buildFrame .digest 0 0x20 (List.replicate 12 0)
    let filled : State := { base with forwardQ := List.replicate 64 sent, commandQ := List.replicate 16 sent }
    let probing : State := { base with southTx := .command sent }
    (lengthAllowed (northFrameKind .digest) 12 = true ∧ base.accepts .south f.bytes ∧
      ({ base with forwardQ := List.replicate 63 sent } : State).forwardQ.length < 64 ∧ base.northTx ≠ none) ∧
    (idle.NorthLaw ∧ idle.northTx = none) ∧ 64 ≤ filled.forwardQ.length ∧
    (lengthAllowed (southFrameKind .command) 0 = true ∧ lengthAllowed (southFrameKind .mgmtReq) 2 = true ∧
      base.accepts .north (buildFrame .command 0x10 1 []).bytes ∧ SouthKind.command ≠ .mgmtReq ∧
      base.ownAddress = some 0x10) ∧
    (base.ownAddress ≠ some 0x20 ∧ ((0x20 : Byte) ≠ 0xFF) ∧ base.ownAddress ≠ some 0xFF ∧
      SouthKind.command ≠ .mgmtReq) ∧
    (({ probing with commandQ := List.replicate 15 sent } : State).commandQ.length < 16 ∧ probing.southTx ≠ .idle) ∧
    (base.SouthLaw ∧ base.southTx = .idle) ∧ 16 ≤ filled.commandQ.length := by
  intro idle f filled probing
  and_intros <;> first
    | exact accepts_begun rfl rfl
    | exact fun _ _ => ⟨rfl, rfl, rfl, rfl⟩
    | exact fun _ _ => ⟨rfl, by simp [base, State.reset]⟩
    | decide +kernel

/-- The seven picks, the guard count at 0 and at 8. -/
theorem witness_NorthPick :
    let owing := { raised with reportOwed := true }
    (base.phase = .running ∧ base.northTx ≠ none ∧ base.responseQ = [] ∧ base.reportQ = [] ∧ base.noticeQ = [] ∧
      base.forwardQ = []) ∧
    (({ base with guardCount := 8, forwardQ := [sent] } : State).forwardQ = sent :: []) ∧
    (base.guardCount ≠ 8 ∧ ({ base with responseQ := [sent], guardCount := 8 } : State).forwardQ = []) ∧
    entryAt ({ base with alarms := [owing], reportQ := [.entry 0x2001 .high] } : State).alarms 0x2001 .high = some owing ∧
    ({ base with reportQ := [.overflow] } : State).reportQ = Reference.overflow :: [] ∧
    ({ base with noticeQ := [expiredNotice 1 0 0] } : State).noticeQ = expiredNotice 1 0 0 :: [] ∧
    ({ base with forwardQ := [sent] } : State).forwardQ = sent :: [] := by decide +kernel

theorem witness_SouthPick :
    base.phase = .running ∧
      ({ base with southTx := .command sent } : State).southTx = .command sent ∧
      ({ base with southTx := .probe 0x2001 sent, enrol := [{ waiting with probeOwed := true }] } : State).southTx
        = .probe 0x2001 sent := by decide +kernel

/-- An entry image at the most attempts, its deadline absent, just reached and just past (R181). -/
theorem witness_BuiltFrames :
    { waiting with attempts := 8 }.attempts ≤ 8 ∧ { waiting with deadline := none }.deadline = none ∧
      waiting.deadline = some 5 ∧ 0 ≤ (5#32 - 5#32).toInt ∧ (5#32 - 6#32).toInt < 0 := by decide +kernel

/-! #### Samples -/

theorem witness_UnknownSample :
    let auto : State := { base with settings := { base.settings with mode := .auto } }
    base.accepts .south (sampleFrame 0 0x20 1 0 1 5).bytes ∧ rowAt base.rows 0x2001 = none ∧
      base.settings.mode ≠ .auto ∧ (∃ e ∈ ({ auto with enrol := [waiting] } : State).enrol, e.addr = 0x2001) ∧
      auto.settings.mode = .auto ∧ (∀ e ∈ auto.enrol, e.addr ≠ 0x2001) ∧
      (List.replicate 15 waiting).length < 16 ∧
      (∀ e ∈ List.replicate 16 { waiting with addr := 0x2002 }, e.addr ≠ 0x2001) ∧
      16 ≤ (List.replicate 16 { waiting with addr := 0x2002 }).length := by
  intro auto
  and_intros <;> first | exact accepts_begun rfl rfl | decide +kernel

theorem witness_SampleDiscarded :
    let blocked : Row := freshRow { watched with policy := .block } 0
    let again : Row := { config := watched, rt := { fresh with lastSeq := some 9 } }
    (withRow watched base).accepts .south (sampleFrame 0 0x20 1 9 1 5).bytes ∧
      rowAt [blocked] 0x2001 = some blocked ∧ blocked.config.policy = .block ∧
      rowAt [again] 0x2001 = some again ∧ again.config.policy ≠ .block ∧ again.rt.lastSeq = some 9 ∧
      (0x01 : Byte).getLsbD 1 = false := by
  intro blocked again
  and_intros <;> first | exact accepts_begun rfl rfl | decide +kernel

theorem witness_InvalidSample :
    let passing := freshRow watched 0
    let quiet := freshRow { watched with policy := .quiet } 0
    let again : Row := { config := watched, rt := { fresh with lastSeq := some 9 } }
    (withRow watched base).accepts .south (sampleFrame 0 0x20 1 9 0 5).bytes ∧
      (rowAt [passing] 0x2001 = some passing ∧ passing.config.policy = .pass) ∧
      (rowAt [quiet] 0x2001 = some quiet ∧ quiet.config.policy ≠ .block ∧ quiet.config.policy ≠ .pass) ∧
      (0x00 : Byte).getLsbD 0 = false ∧ passing.rt.lastSeq ≠ some 9 ∧
      (again.rt.lastSeq = some 9 ∧ (0x02 : Byte).getLsbD 0 = false ∧ (0x02 : Byte).getLsbD 1 = true) ∧
      (List.replicate 63 sent).length < 64 ∧ 64 ≤ (List.replicate 64 sent).length := by
  intro passing quiet again
  and_intros <;> first | exact accepts_begun rfl rfl | decide +kernel

theorem witness_SampleConditioned :
    (withRow watched base).accepts .south (sampleFrame 0 0x20 1 0 1 30).bytes ∧
      rowAt (withRow watched base).rows 0x2001 = some (freshRow watched 0) ∧ watched.policy ≠ .block ∧
      fresh.lastSeq ≠ some 0 := by
  and_intros <;> first | exact accepts_begun rfl rfl | decide +kernel

theorem witness_GapCounted :
    let full := { fresh with gapCount := 65535, lastSeq := some 9 }
    full.gapCount ≤ 65535 ∧ fresh.lastSeq = none ∧ full.lastSeq = some 9 ∧ (reading 11 5).restart = false ∧
      (reading 11 5).seq ≠ 9 ∧ ({ reading 9 5 with flags := 0x02 } : Sample).restart = true := by decide +kernel

theorem witness_StaleRestarted :
    (reading 1 5).valid = true ∧ watched.staleWindow ≠ 0 ∧ { fresh with stale := true }.stale = true ∧
      fresh.stale = false ∧ ({ reading 1 5 with flags := 0x00 } : Sample).valid = false ∧
      { watched with staleWindow := 0 }.staleWindow = 0 := by decide +kernel

/-- The zones' ends, with limit 20 and hysteresis 2: 21; 20 and 19; 18 (R65). -/
theorem witness_TripEvaluated :
    let c := { watched with tripPersistence := 4 }
    (reading 1 21).valid = true ∧ c.tripLimit = some 20 ∧ { watched with tripLimit := none }.tripLimit = none ∧
      ((20 : Value).toInt < (21 : Value).toInt ∧ fresh.trip.active = false ∧ 3 < c.tripPersistence ∧
        c.tripPersistence ≤ 4) ∧
      { fresh with trip := { counter := 4, active := true } }.trip.active = true ∧
      ((20 : Value).toInt - c.hysteresis < (19 : Value).toInt ∧ (20 : Value).toInt ≤ (20 : Value).toInt) ∧
      (18 : Value).toInt ≤ (20 : Value).toInt - c.hysteresis := by decide +kernel

theorem witness_DigestCompleted :
    (reading 1 5).valid = true ∧ fresh.count + 1 ≠ { watched with depth := 2 }.depth ∧ fresh.count + 1 = watched.depth ∧
      -(32768 * (fresh.count : Int)) ≤ fresh.sum ∧ fresh.sum ≤ 32767 * (fresh.count : Int) := by decide +kernel

theorem witness_GateEvaluated :
    let gated := { watched with gate := some { addr := 0x2002, threshold := 0 } }
    (reading 1 5).valid = true ∧ fresh.count + 1 = gated.depth ∧
      ¬ ∃ row d, rowAt [] 0x2002 = some row ∧ row.rt.lastDigest = some d ∧ (0 : Value).toInt ≤ d.mean.toInt ∧
        row.rt.stale = false :=
  ⟨by decide +kernel, by decide +kernel, by rintro ⟨_, _, h, _⟩; cases h⟩

/-- The zones' ends of both limits, -10 and 10, with hysteresis 2 (R51, R53). -/
theorem witness_LimitsEvaluated :
    let seen (v : Value) : Worked := conditionRecord [] watched 0 (reading 1 v) fresh
    let only (v : Value) : Option Digest := some { mean := v, min := v, max := v }
    (fresh.gateOpen = true ∧ (seen 11).rt.gateOpen = true ∧ (seen (-11)).rt.gateOpen = true) ∧
    ((seen 11).digest = only 11 ∧ (seen 10).digest = only 10 ∧ (seen 9).digest = only 9 ∧ (seen 8).digest = only 8) ∧
    ((seen (-11)).digest = only (-11) ∧ (seen (-10)).digest = only (-10) ∧ (seen (-9)).digest = only (-9) ∧
      (seen (-8)).digest = only (-8)) ∧
    { watched with lowLimit := none }.lowLimit = none ∧ watched.lowLimit = some (-10) ∧ watched.highLimit = some 10 ∧
    (0 < (11 : Value).toInt - (10 : Value).toInt ∧ 0 < (-10 : Value).toInt - (-11 : Value).toInt) ∧
    (fresh.high.active = false ∧ fresh.high.counter < watched.persistence ∧ watched.persistence ≤ 15) ∧
    { fresh with high := { counter := 15, active := true } }.high.active = true ∧
    ((10 : Value).toInt - (10 : Value).toInt ≤ 0 ∧ -(watched.hysteresis : Int) < (9 : Value).toInt - (10 : Value).toInt) ∧
    (-(watched.hysteresis : Int) < (-10 : Value).toInt - (-9 : Value).toInt) ∧
    ((8 : Value).toInt - (10 : Value).toInt ≤ -(watched.hysteresis : Int)) ∧
    ((-10 : Value).toInt - (-8 : Value).toInt ≤ -(watched.hysteresis : Int)) := by decide +kernel

/-! #### Alarms -/

theorem witness_StaleExpired :
    let due : State := { withRow watched base with now := 10 }
    due.phase = .running ∧ rowAt due.rows 0x2001 = some (freshRow watched 0) ∧ fresh.staleDeadline = some 10 ∧
      0 ≤ (due.now - 10#32).toInt := by decide +kernel

/-- One millisecond before each deadline (R185). -/
theorem witness_ExpiryNotDue :
    (rowAt (withRow watched base).rows 0x2001 = some (freshRow watched 0) ∧ fresh.staleDeadline = some 10 ∧
      (9#32 - 10#32).toInt < 0) ∧
    (waiting.deadline = some 5 ∧ waiting.state = .probing ∧ (4#32 - 5#32).toInt < 0) ∧
    { waiting with state := .failed }.state ≠ .probing ∧
    (base.session = some { owner := 1, lease := 100, deadline := 100 } ∧ (99#32 - 100#32).toInt < 0) := by decide +kernel

theorem witness_RaiseOrClearTaken :
    entryAt [] 0x2001 .high = none ∧ (List.replicate 63 raised).length < 64 ∧ 64 ≤ (List.replicate 64 raised).length ∧
      entryAt (List.replicate 64 raised) 0x2002 .high = none ∧
      (∀ state ∈ [AlarmState.activeUnack, .activeAck, .clearUnack, .closed],
        entryAt [{ raised with state }] 0x2001 .high = some { raised with state }) := by decide +kernel

theorem witness_OutputLines : base.phase = .running ∧ base.assertReset.phase ≠ .running := by decide +kernel

theorem witness_ReferencePlaced :
    let idle : State := { base with northTx := none, alarms := [raised] }
    Reference.overflow ∈ ({ base with reportQ := [.overflow] } : State).reportQ ∧
      (Reference.overflow ∉ base.reportQ ∧ base.northTx ≠ none) ∧
      (idle.phase = .running ∧ idle.NorthLaw ∧ idle.northTx = none ∧ Reference.overflow ∉ idle.reportQ) ∧
      entryAt idle.alarms 0x2001 .high = some raised := by
  intro idle
  and_intros <;> first | exact fun _ _ => ⟨rfl, rfl, rfl, rfl⟩ | decide +kernel

/-! #### Enrolment -/

theorem witness_DescriptorArrived :
    let held : State := { base with enrol := [waiting], classes := [sensor] }
    held.accepts .south (descriptorFrame 0 0x20 1 5 0 1000 25).bytes ∧
      enrolAt [{ waiting with state := .refused }] 0x2001 = some { waiting with state := .refused } ∧
      enrolAt held.enrol 0x2001 = some waiting ∧ waiting.state ≠ .refused ∧
      (0 : Value).toInt < (1 : Value).toInt ∧ (0 : Value).toInt ≤ (0 : Value).toInt ∧
      (∀ c ∈ held.classes, c.code ≠ 6) ∧ classAt held.classes 5 = some sensor ∧
      128 ≤ ((List.range 128).map rowNamed).length ∧ ((List.range 127).map rowNamed).length < 128 := by
  intro held
  and_intros <;> first | exact accepts_begun rfl rfl | decide +kernel

/-- The widest and the narrowest range, and each stale mode. -/
theorem witness_RowBuilt :
    (-32768 : Value).toInt ≤ (32767 : Value).toInt ∧ (5 : Value).toInt ≤ (5 : Value).toInt ∧ templateOk sensor = true ∧
      templateOk { sensor with staleMode := .fixed 10 } = true ∧ templateOk { sensor with staleMode := .none } = true ∧
      sensor.staleMode = .auto ∧ (1#16 : BitVec 16) ≠ 0 := by decide +kernel

theorem witness_EnrolmentExpired :
    let due : State := { base with enrol := [waiting], now := 5 }
    due.phase = .running ∧ enrolAt due.enrol 0x2001 = some waiting ∧ waiting.deadline = some 5 ∧
      0 ≤ (due.now - 5#32).toInt ∧ waiting.state = .probing ∧
      { waiting with attempts := 3 }.attempts ≤ due.settings.probeRetries ∧
      due.settings.probeRetries < { waiting with attempts := 4 }.attempts ∧
      { waiting with state := .refused }.state ≠ .probing := by decide +kernel

theorem witness_EnrolDecided :
    let manual : State := { base with settings := { base.settings with mode := .manual } }
    let owing : EnrolEntry := { waiting with addr := 0x2002, probeOwed := true, deadline := none }
    base.runs .enrol asker [0x20, 1] ∧ base.settings.mode = .off ∧ manual.runs .enrol asker [0x20, 1] ∧
      manual.settings.mode ≠ .off ∧ rowAt (withRow watched manual).rows 0x2001 = some (freshRow watched 0) ∧
      rowAt manual.rows 0x2001 = none ∧ enrolAt [waiting] 0x2001 = some waiting ∧ waiting.state = .probing ∧
      { waiting with state := .failed }.state ≠ .probing ∧ enrolAt (List.replicate 16 waiting) 0x2002 = none ∧
      16 ≤ (List.replicate 16 waiting).length ∧ (List.replicate 15 waiting).length < 16 ∧
      ({ base with southTx := .command sent } : State).southTx ≠ .idle ∧
      (base.southTx = .idle ∧ ({ base with commandQ := [sent] } : State).commandQ = sent :: []) ∧
      (base.commandQ = [] ∧ ({ base with enrol := [waiting, owing, owing] } : State).enrol = [waiting] ++ owing :: [owing] ∧
        (∀ x ∈ [waiting], x.probeOwed = false) ∧ owing.probeOwed = true) := by
  intro manual owing
  (repeat' with_reducible refine And.intro ?_ ?_) <;> first | exact runs_owned rfl rfl rfl rfl rfl rfl rfl | decide +kernel

/-! #### Requests -/

theorem witness_RequestTurnedAway :
    let full : State := { base with responseQ := List.replicate 8 sent }
    let stored : State := { base with replay := some { id := 7, code := 1, status := .ok, data := [] } }
    let foreign : State := { base with session := some { owner := 2, lease := 100, deadline := 100 } }
    requestOf (.unknownRequest asker 0x40 []) = some (asker, 0x40, []) ∧
      (full.accepts .north (requestFrame asker 0x40 []).bytes ∧ full.ownAddress = some 0x10 ∧ 8 ≤ full.responseQ.length) ∧
      (stored.admits asker 0x40 [] ∧ stored.repeats asker) ∧
      (base.admits asker 0x40 (List.replicate 46 0) ∧ ¬ base.repeats asker ∧ requestKindOf 0x40 = none) ∧
      (requestKindOf 0x01 = some .readPart ∧ ([0] : List Byte).length ≠ RequestKind.readPart.argLength) ∧
      (([] : List Byte).length = RequestKind.discard.argLength ∧ RequestKind.discard.needsSession = true ∧
        ({ base with session := none } : State).session = none) ∧
      foreign.session = some { owner := 2, lease := 100, deadline := 100 } := by
  intro full stored foreign
  refine ⟨rfl, ⟨accepts_begun rfl rfl, by decide +kernel⟩, ⟨admits_begun rfl rfl rfl rfl (by decide), ?_⟩,
    ⟨admits_begun rfl rfl rfl rfl (by decide), no_repeat rfl, rfl⟩, by decide +kernel, by decide +kernel, rfl⟩
  exact ⟨⟨_, rfl, rfl⟩, _, rfl, rfl⟩

theorem witness_RequestAnswered :
    let idle : State := { base with northTx := none }
    (∃ ses, base.session = some ses ∧ ses.owner = asker.source) ∧ ({ base with session := none } : State).session = none ∧
      base.northTx ≠ none ∧ (idle.phase = .running ∧ idle.NorthLaw ∧ idle.northTx = none) := by
  exact ⟨⟨_, rfl, rfl⟩, rfl, by decide +kernel, rfl, fun _ _ => ⟨rfl, rfl, rfl, rfl⟩, rfl⟩

/-- A lease at 99, 100, 10000 and 10001 ms (R129); a lease's deadline reached (R131); 7 and 8 notices waiting (R160). -/
theorem witness_SessionChanged :
    let none' : State := { base with session := none }
    let foreign : State := { base with session := some { owner := 2, lease := 100, deadline := 100 } }
    (none'.runs .openSession asker [0, 99] ∧ (halfAt [0, 99] 0).toNat < 100 ∧ 10000 < (halfAt [0x27, 0x11] 0).toNat) ∧
      (100 ≤ (halfAt [0, 100] 0).toNat ∧ (halfAt [0x27, 0x10] 0).toNat ≤ 10000 ∧ none'.session = none) ∧
      (base.runs .openSession asker [0, 100] ∧ base.session = some { owner := 1, lease := 100, deadline := 100 }) ∧
      (foreign.runs .openSession asker [0x27, 0x10] ∧ foreign.session = some { owner := 2, lease := 100, deadline := 100 }) ∧
      (none'.runs .closeSession asker [] ∧ base.runs .closeSession asker [] ∧ foreign.runs .closeSession asker []) ∧
      0 ≤ (({ base with now := 100 } : State).now - 100#32).toInt ∧
      ((List.replicate 7 (expiredNotice 1 0 0)).length < 8 ∧ base.northTx ≠ none ∧
        8 ≤ (List.replicate 8 (expiredNotice 1 0 0)).length) ∧
      ({ base with northTx := none } : State).NorthLaw := by
  intro none' foreign
  (repeat' with_reducible refine And.intro ?_ ?_) <;>
    first | exact runs_free rfl rfl rfl rfl rfl rfl rfl | exact fun _ _ => ⟨rfl, rfl, rfl, rfl⟩ | decide +kernel

theorem witness_ItemStaged :
    let marks := (List.range 8).map (fun n => StagedItem.delete (BitVec.ofNat 16 n))
    let staged : State := { base with staging := marks }
    let room : State := { base with staging := marks.take 7 }
    let faulty := rowImage { watched with depth := 3 }
    (base.runs .stageRow asker faulty ∧ rowFault (rowOfImage faulty) (byteAt faulty 5) = some 1) ∧
      (base.runs .stageRow asker (rowImage watched) ∧
        rowFault (rowOfImage (rowImage watched)) (byteAt (rowImage watched) 5) = none) ∧
      (staged.runs .stageDelete asker [0, 7] ∧ 7 < marks.length ∧ (marks.map StagedItem.addr)[7]? = some 7 ∧
        ∀ j, j < 7 → (marks.map StagedItem.addr)[j]? ≠ some 7) ∧
      (room.runs .stageDelete asker [0x20, 1] ∧ 0x2001 ∉ room.staging.map StagedItem.addr ∧ room.staging.length < 8) ∧
      (0x2001 ∉ staged.staging.map StagedItem.addr ∧ 8 ≤ staged.staging.length) ∧ base.runs .discard asker [] := by
  intro marks staged room faulty
  (repeat' with_reducible refine And.intro ?_ ?_) <;> first | exact runs_owned rfl rfl rfl rfl rfl rfl rfl | decide +kernel

/-- One configuration for each reason, the first to fail being the reason's own check, and one that passes (R10). -/
theorem witness_RowChecked :
    rowFault { watched with depth := 128 } 0 = some 1 ∧ rowFault { watched with persistence := 16 } 0 = some 2 ∧
      rowFault { watched with tripPersistence := 5 } 0 = some 2 ∧ rowFault { watched with hysteresis := 11 } 0 = some 3 ∧
      rowFault { watched with staleWindow := 9 } 0 = some 4 ∧
      rowFault { watched with gate := some { addr := 0x2001, threshold := 0 } } 0 = some 5 ∧
      rowFault watched 4 = some 6 ∧ rowFault { watched with range := some { low := 1, high := 0 } } 0 = some 7 ∧
      rowFault { watched with hysteresis := 10, staleWindow := 60000 } 3 = none := by decide +kernel

/-- A commit at 129 rows and at 128 (R137); a retirement past an entry of another address, by a busy and an idle transmitter
(R89). -/
theorem witness_CommitApplied :
    let item := StagedItem.row { watched with addr := 0xFFFF }
    let above : State := { base with rows := (List.range 128).map rowNamed, staging := [item] }
    let just : State := { base with rows := (List.range 127).map rowNamed, staging := [item] }
    let other : AlarmEntry := { raised with addr := 0x2002, state := .closed, cause := some .acked, reportOwed := true }
    let calm : AlarmEntry := { raised with addr := 0x2002 }
    let held : State := { base with alarms := [other, raised], reportQ := [.entry 0x2002 .high] }
    let idle : State := { base with alarms := [calm, raised], northTx := none }
    (above.runs .commit asker [] ∧ above.rows.length = 128 ∧ rowAt above.rows item.addr = none) ∧
      (just.runs .commit asker [] ∧ just.rows.length = 127 ∧ rowAt just.rows item.addr = none) ∧
      rowAt (withRow watched base).rows watched.addr = some (freshRow watched 0) ∧ above.staging.length ≤ 8 ∧
      ((rowNamed 1).config.addr < (rowNamed 2).config.addr ∧ (rowNamed 2).config.addr < (rowNamed 3).config.addr) ∧
      (held.AlarmLaw ∧ held.northTx ≠ none ∧ (∀ e ∈ held.alarms, e.addr ≠ 0x2003)) ∧
      (idle.AlarmLaw ∧ idle.phase = .running ∧ idle.NorthLaw ∧ idle.northTx = none ∧ idle.alarms = [calm] ++ raised :: [] ∧
        (∀ x ∈ [calm], x.addr ≠ 0x2001) ∧ raised.addr = 0x2001) := by
  intro item above just other calm held idle
  (repeat' with_reducible refine And.intro ?_ ?_) <;> first
    | exact runs_owned rfl rfl rfl rfl rfl rfl rfl
    | exact fun _ _ => ⟨rfl, rfl, rfl, rfl⟩
    | decide +kernel
    | (simp [State.AlarmLaw, idle, held, other, calm, base, State.reset, raised, OverflowRecord.initial, Config.alarmCapacity,
        entryAt, AlarmEntry.isFor])

theorem witness_ClassWritten :
    let image := classImage sensor
    let bad := classImage { sensor with hysteresisPercent := 26 }
    let others := (List.range 16).map (fun n => { sensor with code := BitVec.ofNat 8 (n + 6) })
    (base.runs .writeClass asker (classImage { sensor with code := 0 }) ∧
        byteAt (classImage { sensor with code := 0 }) 0 = 0) ∧
      (base.runs .writeClass asker bad ∧ byteAt bad 0 ≠ 0 ∧ classImageOk bad = false) ∧
      (base.runs .writeClass asker image ∧ byteAt image 0 ≠ 0 ∧ classImageOk image = true) ∧
      (∃ x ∈ [sensor], x.code = byteAt image 0) ∧ (∀ x ∈ others, x.code ≠ byteAt image 0) ∧
      (others.take 15).length < 16 ∧ 16 ≤ others.length ∧ base.runs .deleteClass asker [5] ∧
      ({ sensor with code := 4 }.code < sensor.code ∧ sensor.code < { sensor with code := 6 }.code) := by
  intro image bad others
  (repeat' with_reducible refine And.intro ?_ ?_) <;> first | exact runs_owned rfl rfl rfl rfl rfl rfl rfl | decide +kernel

/-- The ends of the settings' ranges and the values beyond them (R141). -/
theorem witness_PartSet :
    base.runs .setPart asker [2, 1, 250, 7] ∧ base.runs .setPart asker [0, 0, 5, 0] ∧
      base.runs .setPart asker [3, 2, 251, 8] ∧
      (byteAt [2, 1, 250, 7] 0 = EnrolMode.auto.code ∧ byteAt [2, 1, 250, 7] 1 = UnknownPolicy.drop.code ∧
        (byteAt [2, 1, 250, 7] 2).toNat ≤ 250 ∧ (byteAt [2, 1, 250, 7] 3).toNat ≤ 7) ∧
      5 ≤ (byteAt [0, 0, 5, 0] 2).toNat ∧
      (2 < (byteAt [3, 2, 251, 8] 0).toNat ∧ 1 < (byteAt [3, 2, 251, 8] 1).toNat ∧
        250 < (byteAt [3, 2, 251, 8] 2).toNat ∧ 7 < (byteAt [3, 2, 251, 8] 3).toNat ∧ (byteAt [0, 0, 4, 0] 2).toNat < 5) := by
  (repeat' with_reducible refine And.intro ?_ ?_) <;> first | exact runs_owned rfl rfl rfl rfl rfl rfl rfl | decide +kernel

/-- A lease with its whole run left, and one past its deadline in a session of another node (R143). -/
theorem witness_PartRead :
    let late : State := { base with now := 101, session := some { owner := 2, lease := 100, deadline := 100 } }
    (base.runs .readPart asker [] ∧ (base.taken asker).session = some { owner := 1, lease := 100, deadline := 100 } ∧
        0 ≤ (100#32 - base.now).toInt) ∧
      (late.runs .readPart asker [] ∧ (late.taken asker).session = late.session ∧ (100#32 - late.now).toInt < 0) ∧
      (base.runs .readCounters asker [0, 0] ∧ base.runs .readCounters asker [4, 2] ∧ base.runs .readCounters asker [1, 0] ∧
        base.runs .readCounters asker [2, 1] ∧ base.runs .readCounters asker [3, 1]) := by
  intro late
  (repeat' with_reducible refine And.intro ?_ ?_) <;> first | exact runs_free rfl rfl rfl rfl rfl rfl rfl | decide +kernel

theorem witness_TableRead :
    let full : State := { withRow watched base with classes := [sensor] }
    (full.runs .listRows asker [0] ∧ full.runs .readRow asker [0x20, 1] ∧ full.runs .readState asker [0x20, 2] ∧
        full.runs .readAlarms asker [1] ∧ full.runs .readClass asker [5] ∧ full.runs .readEnrolment asker [0]) ∧
      (rowAt full.rows 0x2001 = some (freshRow watched 0) ∧ rowAt full.rows 0x2002 = none) ∧
      (classAt full.classes 5 = some sensor ∧ classAt full.classes 6 = none) := by
  intro full
  (repeat' with_reducible refine And.intro ?_ ?_) <;> first | exact runs_free rfl rfl rfl rfl rfl rfl rfl | decide +kernel

theorem witness_AlarmAcknowledged :
    let s : State := { base with alarms := [raised] }
    (s.runs .ackAlarm asker [0x20, 1, 0, 0, 3] ∧ s.runs .ackAlarm asker [0x20, 1, 6, 0, 3] ∧ 5 < (byteAt [0, 0, 6] 2).toNat) ∧
      (s.runs .ackAlarm asker [0x20, 1, 5, 0, 0] ∧ halfAt [0x20, 1, 5, 0, 0] 0 ≠ 0xFFFF) ∧
      (s.runs .ackAlarm asker [0xFF, 0xFF, 5, 0, 0] ∧ halfAt [0xFF, 0xFF, 5, 0, 0] 3 = 0 ∧ s.overflow.state = .clear ∧
        (s.overflow.lose 0).state = .pending) ∧
      (s.runs .ackAlarm asker [0x20, 1, 2, 0, 0] ∧ byteAt [0x20, 1, 2, 0, 0] 2 = AlarmKind.high.code) ∧
      (s.runs .ackAlarm asker [0x20, 2, 2, 0, 3] ∧ entryAt s.alarms 0x2002 .high = none) ∧
      (s.runs .ackAlarm asker [0x20, 1, 2, 0, 4] ∧ entryAt s.alarms 0x2001 .high = some raised ∧
        raised.episode ≠ halfAt [0x20, 1, 2, 0, 4] 3) ∧
      (s.runs .ackAlarm asker [0x20, 1, 2, 0, 3] ∧ raised.episode = halfAt [0x20, 1, 2, 0, 3] 3) ∧
      (∀ state ∈ [AlarmState.activeUnack, .clearUnack, .activeAck, .closed],
        entryAt [{ raised with state }] 0x2001 .high = some { raised with state }) := by
  intro s
  (repeat' with_reducible refine And.intro ?_ ?_) <;> first | exact runs_free rfl rfl rfl rfl rfl rfl rfl | decide +kernel

theorem witness_TripReleased :
    let set : State := { base with tripLatch := .set }
    let held : State := { set with rows := [{ config := watched, rt := { fresh with trip := { counter := 1, active := true } } }] }
    (base.runs .tripRelease asker [] ∧ base.tripLatch = .clear) ∧
      (set.runs .tripRelease asker [] ∧ set.tripLatch = .set ∧ set.rows.filter Row.holdsLatch = []) ∧
      (held.runs .tripRelease asker [] ∧ held.tripLatch = .set ∧ held.rows.filter Row.holdsLatch = held.rows) := by
  intro set held
  (repeat' with_reducible refine And.intro ?_ ?_) <;> first | exact runs_owned rfl rfl rfl rfl rfl rfl rfl | decide +kernel

/-- Each state of the record, and the ends of the counts (R148, R151). -/
theorem witness_CaptureRequested :
    let row := withRow watched base
    let element : Element := { value := 5, seq := 1, flags := 1, arrival := 0 }
    let armed : State := { row with capture := { Capture.initial with state := .armed, channel := some 0x2001 } }
    let full : State := { row with capture :=
      { Capture.initial with state := .full, channel := some 0x2001, triggerIndex := some 0, triggerTime := some 0,
                             postCount := 7, buffer := List.replicate 7 element } }
    let blocked := withRow { watched with policy := .block } base
    (row.runs .captureArm asker [0x20, 1, 1, 0xFF, 0, 1, 1] ∧ row.runs .captureArm asker [0x20, 1, 2, 0, 0, 1, 0] ∧
        (halfAt [0x20, 1, 1, 0xFF, 0, 1, 1] 2).toNat = 511 ∧ (halfAt [0x20, 1, 2, 0, 0, 1, 0] 2).toNat = 512) ∧
      (row.capture.state = .idle ∧ rowAt row.rows 0x2001 = some (freshRow watched 0) ∧ watched.policy ≠ .block ∧
        rowAt row.rows 0x2002 = none ∧ (rowAt blocked.rows 0x2001).map (·.config.policy) = some .block) ∧
      (armed.runs .captureArm asker [0x20, 1, 0, 0, 2, 0, 0] ∧ armed.capture.state ≠ .idle) ∧
      (armed.runs .captureTrigger asker [] ∧ armed.capture.state = .armed ∧ full.runs .captureTrigger asker [] ∧
        full.capture.state ≠ .armed) ∧
      (full.runs .readCapture asker [0, 0, 7] ∧ full.capture.state = .full ∧ full.capture.triggerIndex = some 0 ∧
        0 + 7 ≤ full.capture.buffer.length ∧ full.runs .readCapture asker [0, 1, 7] ∧ full.capture.buffer.length < 1 + 7 ∧
        armed.runs .readCapture asker [0, 0, 8]) ∧
      (armed.runs .captureAbort asker [] ∧ armed.capture.channel = some 0x2001 ∧ full.runs .captureAbort asker [] ∧
        base.runs .captureAbort asker [] ∧ base.capture.state = .idle) ∧
      (full.runs .captureRelease asker [] ∧ base.runs .captureRelease asker [] ∧ base.capture.state ≠ .full) := by
  intro row element armed full blocked
  (repeat' with_reducible refine And.intro ?_ ?_) <;> first | exact runs_owned rfl rfl rfl rfl rfl rfl rfl | decide +kernel

theorem witness_CaptureFilled :
    let element : Element := { value := 5, seq := 1, flags := 1, arrival := 0 }
    let armed := { Capture.initial with state := .armed, channel := some 0x2001, preCount := 2, postCount := 2 }
    let going := { armed with state := .triggered, triggerIndex := some 0, triggerTime := some 0 }
    (armed.channel ≠ some 0x2002 ∧ armed.state = .armed ∧ { armed with preCount := 0 }.preCount = 0) ∧
      (0 < armed.preCount ∧ armed.buffer.length < armed.preCount ∧
        { armed with buffer := [element, element] }.buffer.length = armed.preCount) ∧
      (going.state = .triggered ∧ going.triggerIndex = some 0 ∧ going.triggerTime = some 0 ∧
        going.buffer.length + 1 ≠ 0 + going.postCount ∧
        { going with buffer := [element] }.buffer.length + 1 = 0 + going.postCount) ∧
      (armed.trigger = .onRaise ∧ armed.channel = some 0x2001 ∧ { armed with trigger := .manual }.trigger ≠ .onRaise) := by
  decide +kernel

theorem witness_ManagementReset :
    base.runs .reset asker [1] ∧ base.runs .reset asker [2] ∧ base.runs .reset asker [0] ∧ base.runs .reset asker [3] ∧
      byteAt [1] 0 = 0x01 ∧ byteAt [2] 0 = 0x02 ∧ (byteAt [3] 0 ≠ 0x01 ∧ byteAt [3] 0 ≠ 0x02) := by
  (repeat' with_reducible refine And.intro ?_ ?_) <;> first | exact runs_owned rfl rfl rfl rfl rfl rfl rfl | decide +kernel

theorem witness_ImagesReadBack :
    watched.fitsImage ∧ watched.valid ∧
      ({ watched with classCode := some 1, depth := 255, hysteresis := 65535, staleWindow := 65535 } : RowConfig).fitsImage ∧
      templateOk sensor = true ∧ templateOk { sensor with staleMode := .fixed 60000 } = true := by
  and_intros <;> first | decide +kernel | (unfold RowConfig.valid; decide +kernel)

/-- A part with a row, a class, an alarm, an entry waiting, an armed capture and a sample before it. -/
def lively : State :=
  { base with
    pending := [.sampleArrival 0 0x20 1 0 1 30], classes := [sensor],
    rows := [{ config := watched, rt := { fresh with high := { counter := 1, active := true } } }],
    settings := { base.settings with mode := .auto }, alarms := [raised], episode := 4,
    enrol := [{ waiting with addr := 0x2002 }], staging := [.row watched, .delete 0x2005],
    capture := { Capture.initial with state := .armed, channel := some 0x2001 } }

/-- Every law holds in the lively part, and it takes a step. -/
theorem witness_LawsKept :
    lively.SessionLaw ∧ lively.CaptureLaw ∧ lively.QueueLaw ∧ lively.TablesLaw ∧ lively.EnrolLaw ∧ lively.RecordLaw ∧
      lively.LatchLaw ∧ lively.AlarmLaw ∧ lively.NorthLaw ∧ lively.SouthLaw ∧ lively.ConditionLaw ∧
      ∃ t, step lively = .next t := by
  refine ⟨?_, ?_, ?_, ?_, ?_, ?_, ?_, ?_, ?_, ?_, ?_, _, rfl⟩
  · simp [State.SessionLaw, lively, base]
  · simp [State.CaptureLaw, lively, Capture.initial, Config.captureCapacity]
  · simp [State.QueueLaw, lively, base, State.reset]
  · simp only [State.TablesLaw, RowConfig.valid, lively, base, State.reset]; and_intros <;> simp <;> decide +kernel
  · simp [State.EnrolLaw, EnrolEntry.shaped, Settings.inRange, lively, base, State.reset, waiting, Settings.initial]
  · simp only [State.RecordLaw, Row.inRange, lively]; decide +kernel
  · simp only [State.LatchLaw, lively]; decide +kernel
  · simp [State.AlarmLaw, lively, base, State.reset, raised, OverflowRecord.initial, Config.alarmCapacity]
  · simp [State.NorthLaw, lively, base]
  · simp [State.SouthLaw, lively, base, State.reset, waiting]
  · simp [State.ConditionLaw, lively, raised, rowAt, watched, Runtime.holds]

end Sys2Proof.Machine.Tests
end

section
/-! SUPPORT. Sample conditioning (chapter 2): the outcomes of an arrival's lookup and the work of each, and what the
sequence check leaves in a record. -/

namespace Sys2Proof.Machine

open Sys2Proof

/-! ### The outcomes of an arrival (R22, R26, R27) -/

theorem isDuplicate_iff {r : Runtime} {m : Sample} :
    isDuplicate r m = true ↔ r.lastSeq = some m.seq ∧ m.restart = false := by
  simp [isDuplicate]

theorem State.sampleArrived_unknown {f : Frame} {s : State} (h : rowAt s.rows (sampleOf f).addr = none) :
    s.sampleArrived f = s.unknownSample f := by
  unfold State.sampleArrived; rw [h]

theorem State.sampleArrived_block {f : Frame} {s : State} {row : Row} (h : rowAt s.rows (sampleOf f).addr = some row)
    (hp : row.config.policy = .block) : s.sampleArrived f = s := by
  unfold State.sampleArrived; simp only [h, hp]

/-- At a row of any other policy the duplicate test decides (R27). -/
theorem State.sampleArrived_row {f : Frame} {s : State} {row : Row} (h : rowAt s.rows (sampleOf f).addr = some row)
    (hp : row.config.policy ≠ .block) :
    s.sampleArrived f =
      if isDuplicate row.rt (sampleOf f) then s.duplicateSample row else s.conditionSample row f := by
  unfold State.sampleArrived
  rw [h]
  cases hc : row.config.policy with
  | block => exact absurd hc hp
  | pass | digest | quiet => simp only [hc]

/-- The row of a SAMPLE frame's address, found in the received state (R22). -/
theorem rowAt_received (dest source channel seq flags : Byte) (value : Value) (s : State) :
    rowAt (s.received .south).rows (sampleOf (sampleFrame dest source channel seq flags value)).addr
      = rowAt s.rows (source ++ channel) := by
  rw [sampleOf_sampleFrame, State.received_rows]

section Arrival

variable {dest source channel seq flags : Byte} {value : Value} {s : State} {row : Row}

theorem exec_sample_unknown (ha : s.accepts .south (sampleFrame dest source channel seq flags value).bytes)
    (hrow : rowAt s.rows (source ++ channel) = none) :
    exec (.sampleArrival dest source channel seq flags value) s
      = .next (State.unknownSample (sampleFrame dest source channel seq flags value) (s.received .south)) := by
  rw [exec_sample ha, State.sampleArrived_unknown ((rowAt_received ..).trans hrow)]

theorem exec_sample_block (ha : s.accepts .south (sampleFrame dest source channel seq flags value).bytes)
    (hrow : rowAt s.rows (source ++ channel) = some row) (hp : row.config.policy = .block) :
    exec (.sampleArrival dest source channel seq flags value) s = .next (s.received .south) := by
  rw [exec_sample ha, State.sampleArrived_block ((rowAt_received ..).trans hrow) hp]

theorem exec_sample_duplicate (ha : s.accepts .south (sampleFrame dest source channel seq flags value).bytes)
    (hrow : rowAt s.rows (source ++ channel) = some row) (hp : row.config.policy ≠ .block)
    (hl : row.rt.lastSeq = some seq) (hr : flags.getLsbD 1 = false) :
    exec (.sampleArrival dest source channel seq flags value) s
      = .next (State.duplicateSample row (s.received .south)) := by
  have hd : isDuplicate row.rt (sampleOf (sampleFrame dest source channel seq flags value)) = true := by
    rw [isDuplicate_iff, sampleOf_sampleFrame]; exact ⟨hl, hr⟩
  rw [exec_sample ha, State.sampleArrived_row ((rowAt_received ..).trans hrow) hp, if_pos hd]

theorem exec_sample_conditioned (ha : s.accepts .south (sampleFrame dest source channel seq flags value).bytes)
    (hrow : rowAt s.rows (source ++ channel) = some row) (hp : row.config.policy ≠ .block)
    (hfresh : row.rt.lastSeq ≠ some seq ∨ flags.getLsbD 1 = true) :
    exec (.sampleArrival dest source channel seq flags value) s
      = .next (State.conditionSample row (sampleFrame dest source channel seq flags value) (s.received .south)) := by
  have hd : ¬ isDuplicate row.rt (sampleOf (sampleFrame dest source channel seq flags value)) = true := by
    rw [isDuplicate_iff, sampleOf_sampleFrame]
    rintro ⟨hl, hr⟩
    exact hfresh.elim (fun hne => hne hl) (fun hset => Bool.eq_false_iff.mp hr hset)
  rw [exec_sample ha, State.sampleArrived_row ((rowAt_received ..).trans hrow) hp, if_neg hd]

end Arrival

/-! ### An address without a row (R24, R25, R108) -/

theorem State.unknownSample_forward {f : Frame} {s : State} (h : s.settings.unknown = .forward) :
    s.unknownSample f = State.unknownArrival (sampleOf f).addr (s.offerForward f) := by
  unfold State.unknownSample; rw [h]

theorem State.unknownSample_drop {f : Frame} {s : State} (h : s.settings.unknown = .drop) :
    s.unknownSample f = State.unknownArrival (sampleOf f).addr s := by
  unfold State.unknownSample; rw [h]

theorem enrolAt_isNone {enrol : List EnrolEntry} {addr : ChannelAddr} :
    (enrolAt enrol addr).isNone = true ↔ ∀ e ∈ enrol, e.addr ≠ addr := by
  simp [enrolAt]

/-- Outside AUTO mode, or with an entry for the address, the Enrolment Unit does nothing (R108). -/
theorem State.unknownArrival_ignored {addr : ChannelAddr} {s : State}
    (h : s.settings.mode ≠ .auto ∨ ∃ e ∈ s.enrol, e.addr = addr) : s.unknownArrival addr = s := by
  refine if_neg ?_
  rintro ⟨hm, hn⟩
  obtain hmode | ⟨e, he, ha⟩ := h
  · exact hmode hm
  · exact enrolAt_isNone.mp hn e he ha

/-- In AUTO mode a new address gets an entry while the list has room (R108). -/
theorem State.unknownArrival_created {addr : ChannelAddr} {s : State} (hm : s.settings.mode = .auto)
    (hn : ∀ e ∈ s.enrol, e.addr ≠ addr) (hr : s.enrol.length < Config.enrolCapacity) :
    s.unknownArrival addr = s.createEnrol addr := by
  unfold State.unknownArrival; rw [if_pos ⟨hm, enrolAt_isNone.mpr hn⟩, if_pos hr]

/-- In AUTO mode a new address at a full list is counted (R108). -/
theorem State.unknownArrival_full {addr : ChannelAddr} {s : State} (hm : s.settings.mode = .auto)
    (hn : ∀ e ∈ s.enrol, e.addr ≠ addr) (hr : Config.enrolCapacity ≤ s.enrol.length) :
    s.unknownArrival addr =
      { s with partCounters := { s.partCounters with enrolListFull := s.partCounters.enrolListFull + 1 } } := by
  unfold State.unknownArrival; rw [if_pos ⟨hm, enrolAt_isNone.mpr hn⟩, if_neg (not_lt.mpr hr)]

/-! ### The sequence check (R28, R29) -/

theorem missing_of_restart {r : Runtime} {m : Sample} (h : m.restart = true) : missing r m = 0 := by
  unfold missing; split <;> simp [h]

theorem missing_of_no_last {r : Runtime} {m : Sample} (h : r.lastSeq = none) : missing r m = 0 := by
  unfold missing; rw [h]

/-- The numbers between the last sequence and the frame's, modulo 256 (R28). -/
theorem missing_of_last {r : Runtime} {m : Sample} {last : Byte} (h : r.lastSeq = some last) (hr : m.restart = false) :
    missing r m = (m.seq.toNat + 255 - last.toNat) % 256 := by
  unfold missing
  simp only [h, hr, Bool.false_eq_true, if_false]
  bv_omega

/-- What the sequence check writes in a record: gap count, gap pending, last sequence and last raw value (R28). -/
def Runtime.sequenced (r : Runtime) : Nat × Bool × Option Byte × Option Value :=
  (r.gapCount, r.gapPending, r.lastSeq, r.lastRaw)

theorem restartStale_sequenced (c : RowConfig) (now : Time) (r : Runtime) :
    (restartStale c now r).sequenced = r.sequenced := by
  unfold restartStale; split <;> rfl

theorem evaluateTrip_sequenced (c : RowConfig) (v : Value) (r : Runtime) :
    (evaluateTrip c v r).sequenced = r.sequenced := by
  unfold evaluateTrip; split <;> rfl

theorem accumulateStep_sequenced (rows : List Row) (c : RowConfig) (now : Time) (v : Value) (r : Runtime) :
    (accumulateStep rows c now v r).rt.sequenced = r.sequenced := by
  unfold accumulateStep; dsimp only; split <;> rfl

/-- The steps after the first leave what the sequence check wrote (R31). -/
theorem conditionRecord_sequenced (rows : List Row) (c : RowConfig) (now : Time) (m : Sample) (r : Runtime) :
    (conditionRecord rows c now m r).rt.sequenced = (recordSequence m r).sequenced := by
  cases hv : m.valid with
  | false => rw [conditionRecord_invalid hv]
  | true =>
    have hsteps : conditionRecord rows c now m r = validSteps rows c now m.value (recordSequence m r) := if_pos hv
    calc (conditionRecord rows c now m r).rt.sequenced
        = (accumulateStep rows c now m.value
            (evaluateTrip c m.value (restartStale c now (recordSequence m r)))).rt.sequenced := by rw [hsteps]; rfl
      _ = (recordSequence m r).sequenced := by
          rw [accumulateStep_sequenced, evaluateTrip_sequenced, restartStale_sequenced]

/-! ### The offer and the invalid sample (R30, R36, R38) -/

theorem State.offerStep_none {c : RowConfig} {f : Frame} {w : Worked} {s : State}
    (h : offeredFrame s.node c f w = none) : s.offerStep c f w = s.setRecord c.addr w.rt := by
  unfold State.offerStep; rw [h]

theorem State.offerStep_some {c : RowConfig} {f g : Frame} {w : Worked} {s : State}
    (h : offeredFrame s.node c f w = some g) :
    s.offerStep c f w = State.offerForward g (s.setRecord c.addr (afterOffer c s.forwardRoom w.rt)) := by
  unfold State.offerStep; rw [h]

theorem offeredFrame_pass {node : NodeAddr} {c : RowConfig} {f : Frame} {w : Worked} (h : c.policy = .pass) :
    offeredFrame node c f w = some (rawFrame f w.rt.gapPending) := by
  unfold offeredFrame; rw [h]

/-- Without a digest nothing but PASS offers a frame (R31). -/
theorem offeredFrame_no_digest {node : NodeAddr} {c : RowConfig} {f : Frame} {w : Worked} (h : c.policy ≠ .pass)
    (hd : w.digest = none) : offeredFrame node c f w = none := by
  unfold offeredFrame
  cases hp : c.policy with
  | pass => exact absurd hp h
  | digest => simp [hd]
  | quiet | block => rfl

theorem State.forwardRoom_iff {s : State} : s.forwardRoom = true ↔ s.forwardQ.length < Config.forwardCapacity := by
  simp [State.forwardRoom]

theorem afterOffer_pass_joined {c : RowConfig} {r : Runtime} (h : c.policy = .pass) :
    afterOffer c true r = { r with gapPending := false } := by
  simp [afterOffer, h]

theorem afterOffer_dropped (c : RowConfig) (r : Runtime) :
    afterOffer c false r = { r with dropCount := satInc Config.countMax r.dropCount, gapPending := true } := rfl

/-- An arrival that issues nothing sets no latch and leaves the Alarm Unit alone (R20, R68). -/
theorem State.conditionSample_quiet {row : Row} {f : Frame} {s : State} {w : Worked}
    (hw : conditionRecord s.rows row.config s.now (sampleOf f) row.rt = w) (hi : w.issued = []) :
    s.conditionSample row f =
      State.takeElement (sampleOf f).addr (elementOf (sampleOf f) s.now) (s.offerStep row.config f w) := by
  have hlatch : s.latchStep row.config w = s := if_neg (by simp [hi])
  unfold State.conditionSample
  simp only [hw, hi, hlatch, State.takeAlarmEvents, List.foldl_nil]

end Sys2Proof.Machine
end

section
/-! The statements of sample conditioning (chapter 2). -/

namespace Sys2Proof.Machine

open Sys2Proof

/-- Settles O19: steps 2 to 4 leave what the sequence check wrote, so that R28 and R29 are read off its record. -/
theorem gapCounted : Obligations.GapCounted := by
  intro rows c now m r w hcount
  have hw : w.sequenced = (recordSequence m r).sequenced := conditionRecord_sequenced rows c now m r
  obtain ⟨hgap, hpending, hseq, hraw⟩ :
      w.gapCount = min Config.countMax (r.gapCount + missing r m) ∧
        w.gapPending = (r.gapPending || missing r m != 0) ∧ w.lastSeq = some m.seq ∧ w.lastRaw = some m.value := by
    simpa only [Runtime.sequenced, recordSequence, Prod.mk.injEq] using hw
  refine ⟨hseq, hraw, fun hnone => ?_, fun last hl hr _ => ?_⟩
  · have hm : missing r m = 0 := hnone.elim missing_of_restart missing_of_no_last
    rw [hgap, hpending, hm]
    exact ⟨min_eq_right hcount, by simp⟩
  · rw [hgap, hpending, missing_of_last hl hr]
    exact ⟨rfl, rfl⟩

/-- Settles O16: the BLOCK row is decided before the duplicate test, the duplicate by it. -/
theorem sampleDiscarded : Obligations.SampleDiscarded := by
  intro dest source channel seq flags value s row f addr u run ha hrow
  refine ⟨fun hb => exec_sample_block ha hrow hb, fun hb hl hr => ?_⟩
  have hrun : run = .next (u.duplicateSample row) := exec_sample_duplicate ha hrow hb hl hr
  rw [hrun, State.duplicateSample, rowAt_addr hrow]
  rfl

/-- Settles O15: the offer under the unknown policy leaves mode, list and time, by which the Enrolment Unit
then decides. -/
theorem unknownSample : Obligations.UnknownSample := by
  intro dest source channel seq flags value s f addr u forwarded run ha hrow
  have hm : (sampleOf f).addr = addr := congrArg Sample.addr (sampleOf_sampleFrame ..)
  have harrived : run = .next (u.unknownSample f) := exec_sample_unknown ha hrow
  obtain ⟨hrun, hset, henrol, hnow⟩ : run = .next (forwarded.unknownArrival addr) ∧
      forwarded.settings = s.settings ∧ forwarded.enrol = s.enrol ∧ forwarded.now = s.now := by
    have hu : u.settings.unknown = s.settings.unknown := by rw [State.received_settings]
    rw [harrived]
    cases hp : s.settings.unknown with
    | forward => simp [forwarded, hp, State.unknownSample_forward (hu.trans hp), hm, u]
    | drop => simp [forwarded, hp, State.unknownSample_drop (hu.trans hp), hm, u]
  rw [← hset, ← henrol, ← hnow, hrun]
  refine ⟨fun h => ?_, fun hmode hnew hroom => ?_, fun hmode hnew hfull => ?_⟩
  · rw [State.unknownArrival_ignored h]
  · rw [State.unknownArrival_created hmode hnew hroom]
    rfl
  · rw [State.unknownArrival_full hmode hnew hfull]

/-- Settles O17: an invalid sample ends with step 1, so it issues nothing and completes no digest; what is left is
the offer. -/
theorem invalidSample : Obligations.InvalidSample := by
  intro dest source channel seq flags value s row f addr u lost rt raw element record run ha hrow hb hv hfresh
  let m : Sample := { addr, seq, flags, value }
  have hm : sampleOf f = m := sampleOf_sampleFrame ..
  have hlost : missing row.rt m = lost := by
    cases hl : row.rt.lastSeq with
    | none => rw [missing_of_no_last hl]; simp only [lost, hl]
    | some last =>
      cases hr : flags.getLsbD 1 with
      | true => rw [missing_of_restart (m := m) hr]; simp only [lost, hl, hr, if_true]
      | false => rw [missing_of_last (m := m) hl hr]; simp only [lost, hl, hr, Bool.false_eq_true, if_false, m]
  have hrt : recordSequence m row.rt = rt := by
    unfold recordSequence; rw [hlost]; rfl
  let w : Worked := { rt, issued := [], digest := none }
  have hw : conditionRecord u.rows row.config u.now (sampleOf f) row.rt = w := by
    rw [hm, conditionRecord_invalid (m := m) hv, hrt]
  have hrun : run = .next (State.takeElement addr element (u.offerStep row.config f w)) := by
    have hnow : u.now = s.now := State.received_now ..
    calc run = .next (u.conditionSample row f) := exec_sample_conditioned ha hrow hb hfresh
      _ = _ := by rw [State.conditionSample_quiet hw rfl, hm, hnow]; rfl
  have hrecord (r : Runtime) : u.setRecord row.config.addr r = record r := by rw [rowAt_addr hrow]; rfl
  have hraw : rawFrame f w.rt.gapPending = raw := rawFrame_sampleFrame ..
  rw [hrun]
  refine ⟨fun hp => ?_, fun hp hroom => ?_, fun hp hfull => ?_⟩
  · rw [State.offerStep_none (offeredFrame_no_digest hp rfl), hrecord]
  · have hjoin : u.forwardRoom = true := State.forwardRoom_iff.mpr (by rw [State.received_forwardQ]; exact hroom)
    rw [State.offerStep_some (offeredFrame_pass hp), hraw, hjoin, afterOffer_pass_joined hp, hrecord]
  · have hdrop : u.forwardRoom = false := by
      rw [Bool.eq_false_iff, Ne, State.forwardRoom_iff, State.received_forwardQ]; exact not_lt.mpr hfull
    rw [State.offerStep_some (offeredFrame_pass hp), hraw, hdrop, afterOffer_dropped, hrecord]
    rfl

end Sys2Proof.Machine
end

section
/-! SUPPORT. Limit evaluation and gating (chapter 3): what an arrival issues as the changes of the row's four conditions, the
gate found from the table, and LOW and HIGH at a digest as one evaluation by kind. -/

namespace Sys2Proof.Machine

open Sys2Proof

/-! ### Edges (R55, R56) -/

theorem edge_self (addr : ChannelAddr) (kind : AlarmKind) (time : Time) (v : Value) (b : Bool) :
    edge addr kind time v b b = [] := by
  cases b <;> rfl

theorem raise_mem_edge {addr : ChannelAddr} {kind : AlarmKind} {time : Time} {v : Value} {before after : Bool} :
    AlarmEvent.raise addr kind time v ∈ edge addr kind time v before after ↔ before = false ∧ after = true := by
  cases before <;> cases after <;> simp [edge]

theorem clear_mem_edge {addr : ChannelAddr} {kind : AlarmKind} {time : Time} {v : Value} {before after : Bool} :
    AlarmEvent.clear addr kind time ∈ edge addr kind time v before after ↔ before = true ∧ after = false := by
  cases before <;> cases after <;> simp [edge]

/-! ### What the steps leave alone (R31) -/

theorem counts_of_windowed {t r : Runtime} (h : t.windowed = r.windowed) :
    t.count = r.count ∧ t.low = r.low ∧ t.high = r.high := by
  simp only [Runtime.windowed, Prod.mk.injEq] at h
  obtain ⟨_, hcount, _, _, _, _, hlow, hhigh, _⟩ := h
  exact ⟨hcount, hlow, hhigh⟩

theorem restartStale_trip (c : RowConfig) (now : Time) (r : Runtime) : (restartStale c now r).trip = r.trip := by
  unfold restartStale; split <;> rfl

theorem evaluateTrip_stale (c : RowConfig) (v : Value) (r : Runtime) : (evaluateTrip c v r).stale = r.stale := by
  unfold evaluateTrip; split <;> rfl

theorem accumulateStep_trip (rows : List Row) (c : RowConfig) (now : Time) (v : Value) (r : Runtime) :
    (accumulateStep rows c now v r).rt.trip = r.trip := by
  unfold accumulateStep; dsimp only; split <;> rfl

theorem accumulateStep_stale (rows : List Row) (c : RowConfig) (now : Time) (v : Value) (r : Runtime) :
    (accumulateStep rows c now v r).rt.stale = r.stale := by
  unfold accumulateStep; dsimp only; split <;> rfl

/-! ### What an arrival issues (R31, R45) -/

/-- The mean of the digest an arrival completed; without one it is 0, and no event carries it. -/
def Worked.mean (w : Worked) : Value := (w.digest.map Digest.mean).getD 0

theorem Worked.mean_of_digest {w : Worked} {d : Digest} (h : w.digest = some d) : w.mean = d.mean := by
  simp [Worked.mean, h]

/-- The value a condition of a kind is evaluated on: the digest's mean for LOW and HIGH, the sample's for the others. -/
def Worked.seen (w : Worked) (v : Value) : AlarmKind → Value
  | .low | .high => w.mean
  | .trip | .stale => v

/-- The event by which an arrival's work changes the condition of a kind, if it does. -/
def Worked.change (w : Worked) (c : RowConfig) (now : Time) (v : Value) (r : Runtime) (kind : AlarmKind) : List AlarmEvent :=
  edge c.addr kind now (w.seen v kind) (r.holds kind) (w.rt.holds kind)

theorem Worked.kind_of_mem_change {w : Worked} {c : RowConfig} {now : Time} {v : Value} {r : Runtime} {kind : AlarmKind}
    {e : AlarmEvent} (h : e ∈ w.change c now v r kind) : e.kind = kind := edge_kind h

/-- Step 4 issues the changes of LOW and HIGH; a window not filled changes neither (R45, R55). -/
theorem accumulateStep_issued (rows : List Row) (c : RowConfig) (now : Time) (v : Value) (r : Runtime) :
    let w := accumulateStep rows c now v r
    w.issued = w.change c now v r .low ++ w.change c now v r .high := by
  unfold accumulateStep
  dsimp only
  split
  · rfl
  · exact (congrArg₂ (· ++ ·) (edge_self c.addr .low now _ _) (edge_self c.addr .high now _ _)).symm

theorem validSteps_issued (rows : List Row) (c : RowConfig) (now : Time) (v : Value) (r : Runtime) :
    let w := validSteps rows c now v r
    w.issued = w.change c now v r .stale ++ w.change c now v r .trip ++ w.change c now v r .low ++
      w.change c now v r .high := by
  intro w
  let fresh := restartStale c now r
  let tripped := evaluateTrip c v fresh
  have hstale : w.rt.stale = fresh.stale := (accumulateStep_stale ..).trans (evaluateTrip_stale ..)
  have htrip : w.rt.trip = tripped.trip := accumulateStep_trip ..
  have hbefore : fresh.trip = r.trip := restartStale_trip ..
  have hstep : (accumulateStep rows c now v tripped).issued =
      w.change c now v tripped .low ++ w.change c now v tripped .high := accumulateStep_issued ..
  obtain ⟨-, hlow, hhigh⟩ : tripped.count = r.count ∧ tripped.low = r.low ∧ tripped.high = r.high :=
    counts_of_windowed ((evaluateTrip_windowed ..).trans (restartStale_windowed ..))
  calc w.issued
      = edge c.addr .stale now v r.stale fresh.stale ++ edge c.addr .trip now v fresh.trip.active tripped.trip.active ++
          (accumulateStep rows c now v tripped).issued := rfl
    _ = _ := by
      rw [hstep, ← hstale, ← htrip, hbefore, ← List.append_assoc]
      simp only [Worked.change, Runtime.holds, Worked.seen, hlow, hhigh]

/-- An arrival issues the changes of the row's four conditions, in the order STALE, TRIP, LOW, HIGH; an invalid sample changes
none (R30, R31, R45). -/
theorem conditionRecord_issued (rows : List Row) (c : RowConfig) (now : Time) (m : Sample) (r : Runtime) :
    let w := conditionRecord rows c now m r
    w.issued = w.change c now m.value r .stale ++ w.change c now m.value r .trip ++ w.change c now m.value r .low ++
      w.change c now m.value r .high := by
  cases hv : m.valid with
  | true =>
    have hsteps : conditionRecord rows c now m r = validSteps rows c now m.value (recordSequence m r) := if_pos hv
    rw [hsteps]
    exact validSteps_issued rows c now m.value (recordSequence m r)
  | false =>
    rw [conditionRecord_invalid hv]
    have hnone (kind : AlarmKind) :
        Worked.change { rt := recordSequence m r, issued := [], digest := none } c now m.value r kind = [] := by
      cases kind <;> exact edge_self ..
    simp only [hnone, List.append_nil]

section Issued

variable {rows : List Row} {c : RowConfig} {now : Time} {m : Sample} {r : Runtime} {kind : AlarmKind}

/-- An event is issued exactly when it is the change of the condition of its own kind. -/
theorem mem_issued_iff {e : AlarmEvent} :
    e ∈ (conditionRecord rows c now m r).issued ↔
      e ∈ (conditionRecord rows c now m r).change c now m.value r e.kind := by
  rw [conditionRecord_issued]
  simp only [List.mem_append]
  constructor
  · rintro (((h | h) | h) | h) <;> exact Worked.kind_of_mem_change h ▸ h
  · intro h
    cases hk : e.kind <;> rw [hk] at h <;> simp [h]

theorem raise_issued_iff :
    AlarmEvent.raise c.addr kind now ((conditionRecord rows c now m r).seen m.value kind) ∈
        (conditionRecord rows c now m r).issued ↔
      r.holds kind = false ∧ (conditionRecord rows c now m r).rt.holds kind = true :=
  mem_issued_iff.trans raise_mem_edge

theorem clear_issued_iff :
    AlarmEvent.clear c.addr kind now ∈ (conditionRecord rows c now m r).issued ↔
      r.holds kind = true ∧ (conditionRecord rows c now m r).rt.holds kind = false :=
  mem_issued_iff.trans clear_mem_edge

/-- A raise of a kind, at whatever time and value, is issued only if its condition is active afterwards (R56). -/
theorem holds_of_raise_issued {addr : ChannelAddr} {time : Time} {v : Value}
    (h : AlarmEvent.raise addr kind time v ∈ (conditionRecord rows c now m r).issued) :
    (conditionRecord rows c now m r).rt.holds kind = true := by
  obtain ⟨_, _, hafter⟩ | ⟨hclear, _⟩ := edge_mem (mem_issued_iff.mp h)
  · exact hafter
  · cases hclear

end Issued

/-! ### The gate (R47) -/

theorem gateFound_none (rows : List Row) : gateFound rows none = true := rfl

theorem gateFound_some {rows : List Row} {g : Gate} :
    gateFound rows (some g) = true ↔ ∃ row d, rowAt rows g.addr = some row ∧ row.rt.lastDigest = some d ∧
      g.threshold.toInt ≤ d.mean.toInt ∧ row.rt.stale = false := by
  cases hrow : rowAt rows g.addr with
  | none => simp [gateFound, hrow]
  | some row => cases hd : row.rt.lastDigest <;> simp [gateFound, hrow, hd]

/-! ### LOW and HIGH by kind (R51, R53) -/

/-- The counter and condition of LOW, or of HIGH. -/
def Runtime.watch (r : Runtime) (kind : AlarmKind) : Watch := if kind = .low then r.low else r.high

/-- The limit of LOW, or of HIGH. -/
def RowConfig.limit (c : RowConfig) (kind : AlarmKind) : Option Value := if kind = .low then c.lowLimit else c.highLimit

/-- How far a mean lies beyond the limit of LOW, or of HIGH. -/
def beyondBy (kind : AlarmKind) (limit mean : Value) : Int :=
  if kind = .low then limit.toInt - mean.toInt else mean.toInt - limit.toInt

/-- The zone of a mean at the limit of LOW, or of HIGH. -/
def zoneBy (kind : AlarmKind) (limit : Value) (hysteresis : Nat) (mean : Value) : Zone :=
  if kind = .low then zoneBelow limit hysteresis mean else zoneAbove limit hysteresis mean

theorem Runtime.holds_eq_watch {r : Runtime} {kind : AlarmKind} (h : kind = .low ∨ kind = .high) :
    r.holds kind = (r.watch kind).active := by
  obtain rfl | rfl := h <;> rfl

theorem Worked.seen_eq_mean {w : Worked} {v : Value} {kind : AlarmKind} (h : kind = .low ∨ kind = .high) :
    w.seen v kind = w.mean := by
  obtain rfl | rfl := h <;> rfl

section Zones

variable {kind : AlarmKind} {limit mean : Value} {hysteresis : Nat}

theorem zoneBy_raise (h : 0 < beyondBy kind limit mean) : zoneBy kind limit hysteresis mean = .raise := by
  by_cases hk : kind = .low <;> simp only [beyondBy, hk, if_true, if_false] at h
  · rw [zoneBy, if_pos hk, zoneBelow, if_pos (by omega)]
  · rw [zoneBy, if_neg hk, zoneAbove, if_pos (by omega)]

theorem zoneBy_hold (h : beyondBy kind limit mean ≤ 0) (hh : -(hysteresis : Int) < beyondBy kind limit mean) :
    zoneBy kind limit hysteresis mean = .hold := by
  by_cases hk : kind = .low <;> simp only [beyondBy, hk, if_true, if_false] at h hh
  · rw [zoneBy, if_pos hk, zoneBelow, if_neg (by omega), if_neg (by omega)]
  · rw [zoneBy, if_neg hk, zoneAbove, if_neg (by omega), if_neg (by omega)]

theorem zoneBy_clear (h : beyondBy kind limit mean ≤ -(hysteresis : Int)) :
    zoneBy kind limit hysteresis mean = .clear := by
  by_cases hk : kind = .low <;> simp only [beyondBy, hk, if_true, if_false] at h
  · rw [zoneBy, if_pos hk, zoneBelow, if_neg (by omega), if_pos (by omega)]
  · rw [zoneBy, if_neg hk, zoneAbove, if_neg (by omega), if_pos (by omega)]

end Zones

/-! ### The tables of R51, R53 and R65 -/

section Moves

variable {cap persistence : Nat} {w : Watch}

/-- An inactive condition below its persistence counts one more, and becomes active on reaching it. -/
theorem Watch.move_raise_inactive (ha : w.active = false) (hlt : w.counter < persistence) (hcap : persistence ≤ cap) :
    w.move cap persistence .raise = { counter := w.counter + 1, active := w.counter + 1 == persistence } := by
  have hcount : satInc cap w.counter = w.counter + 1 := min_eq_right (by omega)
  simp only [Watch.move, hcount, ha, Bool.false_or]

theorem Watch.move_raise_active (ha : w.active = true) :
    w.move cap persistence .raise = { counter := min cap (w.counter + 1), active := true } := by
  simp only [Watch.move, satInc, ha, Bool.true_or]

theorem Watch.move_hold : w.move cap persistence .hold = { counter := 0, active := w.active } := rfl

theorem Watch.move_clear : w.move cap persistence .clear = { counter := 0, active := false } := rfl

end Moves

/-! ### The evaluation by the gate and the limit (R46, R49, R51, R53) -/

section Evaluate

variable {c : RowConfig} {mean : Value} {r : Runtime} {kind : AlarmKind}

theorem evaluate_closed : (evaluate c false mean r).watch kind = { counter := 0, active := false } := by
  unfold Runtime.watch; split <;> rfl

theorem evaluate_absent (hk : kind = .low ∨ kind = .high) (h : c.limit kind = none) :
    (evaluate c true mean r).watch kind = r.watch kind := by
  obtain rfl | rfl := hk
  · have hlow : c.lowLimit = none := h
    simp [Runtime.watch, evaluate, lowAfter, hlow]
  · have hhigh : c.highLimit = none := h
    simp [Runtime.watch, evaluate, highAfter, hhigh]

theorem evaluate_present {l : Value} (hk : kind = .low ∨ kind = .high) (h : c.limit kind = some l) :
    (evaluate c true mean r).watch kind =
      (r.watch kind).move 15 c.persistence (zoneBy kind l c.hysteresis mean) := by
  obtain rfl | rfl := hk
  · have hlow : c.lowLimit = some l := h
    simp [Runtime.watch, evaluate, lowAfter, zoneBy, hlow]
  · have hhigh : c.highLimit = some l := h
    simp [Runtime.watch, evaluate, highAfter, zoneBy, hhigh]

end Evaluate

/-! ### The evaluation of a digest (R45) -/

section Digests

variable {rows : List Row} {c : RowConfig} {now : Time} {m : Sample} {r : Runtime} {d : Digest} {kind : AlarmKind}

theorem accumulateStep_evaluates {v : Value} (h : r.count + 1 = c.depth) :
    ∃ done : Runtime, done.low = r.low ∧ done.high = r.high ∧
      (accumulateStep rows c now v r).rt =
        evaluate c (gateFound rows c.gate) (accumulateStep rows c now v r).mean done := by
  have hfull : (accumulate v r).count = c.depth := h
  refine ⟨completeDigest c (accumulate v r), rfl, rfl, ?_⟩
  unfold accumulateStep
  simp only [if_pos hfull, Worked.mean, Option.map_some, Option.getD_some]

/-- A window not filled completes no digest (R34). -/
theorem accumulateStep_digest_none {v : Value} (h : r.count + 1 ≠ c.depth) :
    (accumulateStep rows c now v r).digest = none := by
  have hnot : ¬ (accumulate v r).count = c.depth := h
  simp [accumulateStep, hnot]

/-- A valid sample that fills the depth evaluates the mean of its digest, with LOW and HIGH as they stood (R31, R45). -/
theorem conditionRecord_evaluates (hv : m.valid = true) (hc : r.count + 1 = c.depth) :
    ∃ done : Runtime, (∀ kind, done.watch kind = r.watch kind) ∧
      (conditionRecord rows c now m r).rt =
        evaluate c (gateFound rows c.gate) (conditionRecord rows c now m r).mean done := by
  obtain ⟨t, ht, hw⟩ := conditionRecord_valid (rows := rows) (c := c) (now := now) (r := r) hv
  obtain ⟨hcount, hlow, hhigh⟩ := counts_of_windowed ht
  obtain ⟨done, hdlow, hdhigh, hrt⟩ :=
    accumulateStep_evaluates (rows := rows) (now := now) (v := m.value) ((congrArg (· + 1) hcount).trans hc)
  rw [hw]
  exact ⟨done, fun kind => by simp only [Runtime.watch, hdlow, hdhigh, hlow, hhigh], hrt⟩

/-- A digest is completed only by a valid sample that fills the depth (R30, R34). -/
theorem filled_of_digest (h : (conditionRecord rows c now m r).digest = some d) :
    m.valid = true ∧ r.count + 1 = c.depth := by
  cases hv : m.valid with
  | false => rw [conditionRecord_invalid hv] at h; cases h
  | true =>
    obtain ⟨t, ht, hw⟩ := conditionRecord_valid (rows := rows) (c := c) (now := now) (r := r) hv
    obtain ⟨hcount, -, -⟩ := counts_of_windowed ht
    refine ⟨rfl, ?_⟩
    by_contra hne
    have hnone : (accumulateStep rows c now m.value t).digest = none := accumulateStep_digest_none (hcount ▸ hne)
    rw [hw] at h
    cases hnone.symm.trans h

/-- A digest with the gate recorded open is an evaluation of its mean with the gate open (R45, R47). -/
theorem conditionRecord_open (hd : (conditionRecord rows c now m r).digest = some d)
    (ho : (conditionRecord rows c now m r).rt.gateOpen = true) :
    ∃ done : Runtime, (∀ kind, done.watch kind = r.watch kind) ∧
      (conditionRecord rows c now m r).rt = evaluate c true d.mean done := by
  obtain ⟨hv, hc⟩ := filled_of_digest hd
  obtain ⟨done, hdone, hrt⟩ := conditionRecord_evaluates (rows := rows) (now := now) hv hc
  have hgate : gateFound rows c.gate = true := by rw [hrt] at ho; exact ho
  rw [hgate, Worked.mean_of_digest hd] at hrt
  exact ⟨done, hdone, hrt⟩

theorem watch_absent (hk : kind = .low ∨ kind = .high) (hd : (conditionRecord rows c now m r).digest = some d)
    (ho : (conditionRecord rows c now m r).rt.gateOpen = true) (h : c.limit kind = none) :
    (conditionRecord rows c now m r).rt.watch kind = r.watch kind := by
  obtain ⟨done, hdone, hrt⟩ := conditionRecord_open hd ho
  rw [hrt, evaluate_absent hk h, hdone]

theorem watch_present {l : Value} (hk : kind = .low ∨ kind = .high)
    (hd : (conditionRecord rows c now m r).digest = some d)
    (ho : (conditionRecord rows c now m r).rt.gateOpen = true) (h : c.limit kind = some l) :
    (conditionRecord rows c now m r).rt.watch kind =
      (r.watch kind).move 15 c.persistence (zoneBy kind l c.hysteresis d.mean) := by
  obtain ⟨done, hdone, hrt⟩ := conditionRecord_open hd ho
  rw [hrt, evaluate_present hk h, hdone]

theorem limit_raise_issued_iff (hk : kind = .low ∨ kind = .high)
    (hd : (conditionRecord rows c now m r).digest = some d) :
    AlarmEvent.raise c.addr kind now d.mean ∈ (conditionRecord rows c now m r).issued ↔
      (r.watch kind).active = false ∧ ((conditionRecord rows c now m r).rt.watch kind).active = true := by
  rw [← Worked.mean_of_digest hd, ← Worked.seen_eq_mean (v := m.value) hk, raise_issued_iff,
    Runtime.holds_eq_watch hk, Runtime.holds_eq_watch hk]

theorem limit_clear_issued_iff (hk : kind = .low ∨ kind = .high) :
    AlarmEvent.clear c.addr kind now ∈ (conditionRecord rows c now m r).issued ↔
      (r.watch kind).active = true ∧ ((conditionRecord rows c now m r).rt.watch kind).active = false := by
  rw [clear_issued_iff, Runtime.holds_eq_watch hk, Runtime.holds_eq_watch hk]

end Digests

end Sys2Proof.Machine
end

section
/-! The statements of limit evaluation and gating (chapter 3). -/

namespace Sys2Proof.Machine

open Sys2Proof

/-- Settles O23: the record keeps the gate as found from the table; a closed gate leaves both conditions inactive, and the
events follow from the conditions before and after. -/
theorem gateEvaluated : Obligations.GateEvaluated := by
  intro rows c now m r w found hv hc
  obtain ⟨done, -, hrt⟩ : ∃ done : Runtime, (∀ kind, done.watch kind = r.watch kind) ∧
      w.rt = evaluate c (gateFound rows c.gate) w.mean done := conditionRecord_evaluates hv hc
  have hfound : gateFound rows c.gate = true ↔ found := by
    cases hg : c.gate with
    | none => simp only [found, hg, gateFound_none]
    | some g => simp only [found, hg]; exact gateFound_some
  refine ⟨by rw [hrt]; exact hfound, fun hclosed => ?_⟩
  have hgate : gateFound rows c.gate = false := Bool.eq_false_iff.mpr (fun h => hclosed (hfound.mp h))
  have hafter (kind : AlarmKind) : w.rt.watch kind = { counter := 0, active := false } := by
    rw [hrt, hgate, evaluate_closed]
  have hclear {kind : AlarmKind} (hk : kind = .low ∨ kind = .high) :
      AlarmEvent.clear c.addr kind now ∈ w.issued ↔ (r.watch kind).active = true :=
    (limit_clear_issued_iff hk).trans (and_iff_left (congrArg Watch.active (hafter kind)))
  refine ⟨hafter .low, hafter .high, hclear (.inl rfl), hclear (.inr rfl), fun kind time v hk hraise => ?_⟩
  have hactive : (w.rt.watch kind).active = true := Runtime.holds_eq_watch hk ▸ holds_of_raise_issued hraise
  rw [hafter] at hactive
  cases hactive

/-- Settles O24: with the gate open the zone moves the counter and the condition, and what is issued are the changes of the
four conditions in their order. -/
theorem limitsEvaluated : Obligations.LimitsEvaluated := by
  refine ⟨?_, fun rows c now m r => ?_⟩
  · intro rows c now m r d kind w before after limit beyond raised cleared hk hd hopen
    have hraised : raised ↔ before.active = false ∧ after.active = true := limit_raise_issued_iff hk hd
    have hcleared : cleared ↔ before.active = true ∧ after.active = false := limit_clear_issued_iff hk
    rw [hraised, hcleared]
    refine ⟨fun habsent => ?_, fun l hl => ?_⟩
    · have hafter : after = before := watch_absent hk hd hopen habsent
      simp [hafter]
    · have hafter : after = before.move 15 c.persistence (zoneBy kind l c.hysteresis d.mean) :=
        watch_present hk hd hopen hl
      refine ⟨fun hz ha hlt hcap => ?_, fun hz ha => ?_, fun hz hh => ?_, fun hz => ?_⟩
      · rw [hafter, zoneBy_raise hz, Watch.move_raise_inactive ha hlt hcap]
        simp [ha]
      · rw [hafter, zoneBy_raise hz, Watch.move_raise_active ha]
        simp [ha]
      · rw [hafter, zoneBy_hold hz hh, Watch.move_hold]
        simp
      · rw [hafter, zoneBy_clear hz, Watch.move_clear]
        simp
  · let w := conditionRecord rows c now m r
    exact ⟨w.change c now m.value r .stale, w.change c now m.value r .trip, w.change c now m.value r .low,
      w.change c now m.value r .high, conditionRecord_issued .., edge_length .., edge_length .., edge_length ..,
      edge_length .., fun _ => edge_kind, fun _ => edge_kind, fun _ => edge_kind, fun _ => edge_kind⟩

end Sys2Proof.Machine
end

section
/-! SUPPORT. The trip path and stale supervision (chapter 4): TRIP after an arrival as one move by the zone of the sample's
value, and the expiry of a stale deadline. -/

namespace Sys2Proof.Machine

open Sys2Proof

/-! ### TRIP after an arrival (R64, R65) -/

section Trip

variable {rows : List Row} {c : RowConfig} {now : Time} {m : Sample} {r : Runtime} {v : Value}

theorem evaluateTrip_absent (h : c.tripLimit = none) : (evaluateTrip c v r).trip = r.trip := by
  unfold evaluateTrip; rw [h]

/-- The zones of TRIP are those of HIGH, at the trip limit (R51, R65). -/
theorem evaluateTrip_present {l : Value} (h : c.tripLimit = some l) :
    (evaluateTrip c v r).trip = r.trip.move 4 c.tripPersistence (zoneBy .high l c.hysteresis v) := by
  unfold evaluateTrip; rw [h]; rfl

/-- Of a valid arrival's steps only the third writes TRIP (R31). -/
theorem conditionRecord_trip (hv : m.valid = true) :
    (conditionRecord rows c now m r).rt.trip =
      (evaluateTrip c m.value (restartStale c now (recordSequence m r))).trip := by
  have hsteps : conditionRecord rows c now m r = validSteps rows c now m.value (recordSequence m r) := if_pos hv
  rw [hsteps]
  exact accumulateStep_trip ..

theorem conditionRecord_trip_absent (h : m.valid = false ∨ c.tripLimit = none) :
    (conditionRecord rows c now m r).rt.trip = r.trip := by
  cases hv : m.valid with
  | false => rw [conditionRecord_invalid hv]; rfl
  | true =>
    have hnone : c.tripLimit = none := h.resolve_left (by simp [hv])
    rw [conditionRecord_trip hv, evaluateTrip_absent hnone, restartStale_trip]; rfl

theorem conditionRecord_trip_present {l : Value} (hv : m.valid = true) (h : c.tripLimit = some l) :
    (conditionRecord rows c now m r).rt.trip =
      r.trip.move 4 c.tripPersistence (zoneBy .high l c.hysteresis m.value) := by
  rw [conditionRecord_trip hv, evaluateTrip_present h, restartStale_trip]; rfl

end Trip

/-! ### The expiry of a stale deadline (R73, R185) -/

theorem reached_iff {now deadline : Time} : reached now deadline = true ↔ 0 ≤ (now - deadline).toInt :=
  decide_eq_true_iff

/-- At a row whose deadline is present and reached, the expiry writes STALE and the deadline and issues the raise (R73). -/
theorem State.expireStale_due {addr : ChannelAddr} {s : State} {row : Row} {deadline : Time}
    (hrow : rowAt s.rows addr = some row) (hd : row.rt.staleDeadline = some deadline)
    (hr : reached s.now deadline = true) :
    s.expireStale addr =
      State.takeRaise addr .stale s.now 0 (s.setRecord addr { row.rt with stale := true, staleDeadline := none }) := by
  have hdue : row.rt.staleDeadline.any (reached s.now) = true := by rw [hd]; exact hr
  unfold State.expireStale
  simp only [hrow, if_pos hdue]

theorem exec_staleExpiry {addr : ChannelAddr} {s : State} (h : s.phase = .running) :
    exec (.staleExpiry addr) s = .next (s.expireStale addr) := by
  show Host.Outcome.next _ = _
  rw [State.whileRunning_running h]

end Sys2Proof.Machine
end

section
/-! The statements of the trip path and stale supervision (chapter 4). -/

namespace Sys2Proof.Machine

open Sys2Proof

/-- Settles O25: the command is the expiry of a running part, and the expiry of a deadline reached is the record's change with
its raise. -/
theorem staleExpired : Obligations.StaleExpired := by
  intro addr s row deadline hrun hrow hd hreached
  rw [exec_staleExpiry hrun, State.expireStale_due hrow hd (reached_iff.mpr hreached)]
  rfl

/-- Settles O21: the zone of the value moves the counter and TRIP, and the events follow from TRIP before and after. -/
theorem tripEvaluated : Obligations.TripEvaluated := by
  intro rows c now m r w raised cleared
  have hraised : raised ↔ r.trip.active = false ∧ w.rt.trip.active = true := raise_issued_iff (kind := .trip)
  have hcleared : cleared ↔ r.trip.active = true ∧ w.rt.trip.active = false := clear_issued_iff (kind := .trip)
  rw [hraised, hcleared]
  refine ⟨fun habsent => ?_, fun limit hv hl => ?_⟩
  · have htrip : w.rt.trip = r.trip := conditionRecord_trip_absent habsent
    simp [htrip]
  · have htrip : w.rt.trip = r.trip.move 4 c.tripPersistence (zoneBy .high limit c.hysteresis m.value) :=
      conditionRecord_trip_present hv hl
    have hbeyond : beyondBy .high limit m.value = m.value.toInt - limit.toInt := rfl
    refine ⟨fun hz ha hlt hcap => ?_, fun hz ha => ?_, fun hh hz => ?_, fun _ hz => ?_⟩
    · rw [htrip, zoneBy_raise (by omega), Watch.move_raise_inactive ha hlt hcap]
      simp [ha]
    · rw [htrip, zoneBy_raise (by omega), Watch.move_raise_active ha]
      simp [ha]
    · rw [htrip, zoneBy_hold (by omega) (by omega), Watch.move_hold]
      simp
    · rw [htrip, zoneBy_clear (by omega), Watch.move_clear]
      simp

end Sys2Proof.Machine
end

section
/-! SUPPORT. The Alarm Table and the output lines (chapter 5): what a raise and a clear do by the entry they find, and when
each line is asserted. -/

namespace Sys2Proof.Machine

open Sys2Proof

/-! ### The output lines (R68, R97, R187) -/

theorem State.tripLine_asserted_iff {s : State} :
    s.tripLine = .asserted ↔ s.tripLatch = .set ∧ s.phase = .running := by
  simp [State.tripLine]

theorem AlarmEntry.holdsAlert_iff {e : AlarmEntry} :
    e.holdsAlert = true ↔ e.state = .activeUnack ∨ e.state = .clearUnack := by
  simp [AlarmEntry.holdsAlert]

theorem State.alertLine_asserted_iff {s : State} :
    s.alertLine = .asserted ↔
      ((∃ e ∈ s.alarms, e.state = .activeUnack ∨ e.state = .clearUnack) ∨ s.overflow.state = .pending) ∧
        s.phase = .running := by
  simp [State.alertLine, AlarmEntry.holdsAlert_iff]

theorem State.tripLine_released {s : State} (h : s.phase ≠ .running) : s.tripLine = .released :=
  if_neg (fun hset => h hset.2)

theorem State.alertLine_released {s : State} (h : s.phase ≠ .running) : s.alertLine = .released :=
  if_neg (fun hheld => h hheld.2)

/-! ### The entry of a pair (R80, R90) -/

theorem AlarmEntry.isFor_iff {addr : ChannelAddr} {kind : AlarmKind} {e : AlarmEntry} :
    e.isFor addr kind = true ↔ e.addr = addr ∧ e.kind = kind := by
  simp [AlarmEntry.isFor]

/-- A change reaches entries of the pair's kind only, so its own kind may be read as the pair's. -/
theorem changeEntry_congr {alarms : List AlarmEntry} {addr : ChannelAddr} {kind : AlarmKind}
    {change change' : AlarmEntry → AlarmEntry} (h : ∀ e, e.kind = kind → change e = change' e) :
    changeEntry alarms addr kind change = changeEntry alarms addr kind change' := by
  refine List.map_congr_left fun e _ => ?_
  split
  next hfor => exact h e (AlarmEntry.isFor_iff.mp hfor).2
  next => rfl

theorem changeEntry_reraised (alarms : List AlarmEntry) (addr : ChannelAddr) (kind : AlarmKind) (time : Time) (v : Value) :
    changeEntry alarms addr kind (AlarmEntry.reraised time v) =
      changeEntry alarms addr kind (fun x =>
        { x.reraised time v with extreme := furtherExtreme kind x.extreme v }) :=
  changeEntry_congr fun _ hkind => by subst hkind; rfl

theorem changeEntry_reopened (alarms : List AlarmEntry) (addr : ChannelAddr) (kind : AlarmKind) (time : Time) (v : Value)
    (episode : BitVec 16) :
    changeEntry alarms addr kind (AlarmEntry.reopened time v episode) =
      changeEntry alarms addr kind (fun x =>
        { x.reopened time v episode with extreme := firstExtreme kind v }) :=
  changeEntry_congr fun _ hkind => by subst hkind; rfl

theorem firstExtreme_eq (kind : AlarmKind) (v : Value) : firstExtreme kind v = if kind = .stale then 0 else v := by
  cases kind <;> rfl

section ByEntry

variable {addr : ChannelAddr} {kind : AlarmKind} {time : Time} {v : Value} {s : State} {e : AlarmEntry}

/-! ### A raise by the entry it finds (R84, R85, R94) -/

theorem State.raiseEntry_created (h : entryAt s.alarms addr kind = none) (hroom : s.alarms.length < Config.alarmCapacity) :
    s.raiseEntry addr kind time v =
      State.placeReference (.entry addr kind)
        { s with alarms := s.alarms ++ [newEntry addr kind time v s.episode], episode := nextEpisode s.episode } := by
  simp only [State.raiseEntry, h, if_pos hroom]

theorem State.raiseEntry_lost (h : entryAt s.alarms addr kind = none) (hfull : Config.alarmCapacity ≤ s.alarms.length) :
    s.raiseEntry addr kind time v = State.placeReference .overflow { s with overflow := s.overflow.lose time } := by
  simp only [State.raiseEntry, h, if_neg (not_lt.mpr hfull)]

theorem State.raiseEntry_reraised (h : entryAt s.alarms addr kind = some e) (hs : e.state = .clearUnack) :
    s.raiseEntry addr kind time v = s.changeAlarm addr kind (AlarmEntry.reraised time v) := by
  simp only [State.raiseEntry, h, hs]

theorem State.raiseEntry_reopened (h : entryAt s.alarms addr kind = some e) (hs : e.state = .closed) :
    s.raiseEntry addr kind time v =
      State.changeAlarm addr kind (AlarmEntry.reopened time v s.episode) { s with episode := nextEpisode s.episode } := by
  simp only [State.raiseEntry, h, hs]

/-! ### A clear by the entry it finds (R86) -/

theorem State.takeClear_absent (h : entryAt s.alarms addr kind = none) : s.takeClear addr kind time = s := by
  simp only [State.takeClear, h]

theorem State.takeClear_activeUnack (h : entryAt s.alarms addr kind = some e) (hs : e.state = .activeUnack) :
    s.takeClear addr kind time = s.changeAlarm addr kind (AlarmEntry.moved .clearUnack none time) := by
  simp only [State.takeClear, h, hs]

theorem State.takeClear_activeAck (h : entryAt s.alarms addr kind = some e) (hs : e.state = .activeAck) :
    s.takeClear addr kind time = s.changeAlarm addr kind (AlarmEntry.moved .closed (some .cleared) time) := by
  simp only [State.takeClear, h, hs]

theorem State.takeClear_ignored (h : entryAt s.alarms addr kind = some e) (hs : e.state = .clearUnack ∨ e.state = .closed) :
    s.takeClear addr kind time = s := by
  obtain hs | hs := hs <;> simp only [State.takeClear, h, hs]

end ByEntry

end Sys2Proof.Machine
end

section
/-! The statements of the alarm table (chapter 5). -/

namespace Sys2Proof.Machine

open Sys2Proof

/-- Settles O27: one case of a raise or of a clear for each entry found; the extreme value follows the kind of the pair, which
is the changed entry's. -/
theorem raiseOrClearTaken : Obligations.RaiseOrClearTaken := by
  intro addr kind time v s next first changed noticed
  have hfirst : firstExtreme kind v = first := firstExtreme_eq kind v
  refine ⟨fun hnone hroom => ?created, fun hnone hfull => ?lost, fun e he hs => ?reraised, fun e he hs => ?reopened,
    State.takeClear_absent, fun e he => ⟨State.takeClear_activeUnack he, State.takeClear_activeAck he,
      State.takeClear_ignored he⟩⟩
  case created =>
    rw [State.takeRaise, State.raiseEntry_created hnone hroom, newEntry, hfirst]
    rfl
  case lost =>
    rw [State.takeRaise, State.raiseEntry_lost hnone hfull]
    rfl
  case reraised =>
    rw [State.takeRaise, State.raiseEntry_reraised he hs, State.changeAlarm, changeEntry_reraised]
    cases kind <;> rfl
  case reopened =>
    rw [State.takeRaise, State.raiseEntry_reopened he hs, State.changeAlarm, changeEntry_reopened, hfirst]
    rfl

/-- Settles O28: each line's condition, with the phase decided. -/
theorem outputLines : Obligations.OutputLines := by
  intro s
  refine ⟨fun hrun => ⟨?_, ?_⟩, fun hheld => ⟨State.tripLine_released hheld, State.alertLine_released hheld⟩⟩
  · rw [State.tripLine_asserted_iff, and_iff_left hrun]
  · rw [State.alertLine_asserted_iff, and_iff_left hrun]

end Sys2Proof.Machine
end

section
/-! SUPPORT. Channel enrolment (chapter 6): the expiries of an entry found due, the row built from a valid template, and the
South pick that follows a completion. -/

namespace Sys2Proof.Machine

open Sys2Proof

/-! ### The Enrolment List by address (R105) -/

theorem addr_of_enrolAt {enrol : List EnrolEntry} {addr : ChannelAddr} {e : EnrolEntry}
    (h : enrolAt enrol addr = some e) : e.addr = addr := by
  simpa using List.find?_some h

theorem changeEnrol_eq_map (enrol : List EnrolEntry) (addr : ChannelAddr) (change : EnrolEntry → EnrolEntry) :
    changeEnrol enrol addr change = enrol.map (fun e => if e.addr = addr then change e else e) := by
  simp [changeEnrol]

/-! ### Completions on the South side (R111, R166) -/

/-- The pick overwrites the South transmitter whatever it held (R166). -/
theorem State.pickSouth_setSouthTx (s : State) (tx : SouthTx) :
    State.pickSouth { s with southTx := tx } = s.pickSouth := by
  unfold State.pickSouth
  cases s.commandQ with
  | cons f rest => rfl
  | nil => cases s.enrol.find? (·.probeOwed) <;> rfl

theorem State.completeCommand_command {s : State} {f : Frame} (h : s.southTx = .command f) :
    s.completeCommand = s.pickSouth := by
  unfold State.completeCommand
  simp only [h, State.pickSouth_setSouthTx]

theorem State.completeProbe_probe {s : State} {addr : ChannelAddr} {f : Frame} (h : s.southTx = .probe addr f) :
    s.completeProbe = State.pickSouth (s.probeCompleted addr) := by
  unfold State.completeProbe
  simp only [h]
  exact State.pickSouth_setSouthTx (s.probeCompleted addr) .idle

/-- A probe's completion reaches exactly the entries of its address in PROBING with the probe owed (R111). -/
theorem State.probeCompleted_eq (addr : ChannelAddr) (s : State) :
    s.probeCompleted addr =
      { s with
        enrol := s.enrol.map (fun e =>
          if e.addr = addr ∧ e.state = .probing ∧ e.probeOwed = true then
            { e with attempts := e.attempts + 1, probeOwed := false,
                     deadline := some (after s.now s.settings.probeTimeout) }
          else e) } := by
  simp only [State.probeCompleted, changeEnrol_eq_map, EnrolEntry.probed, ite_and]

theorem exec_southTransmitComplete {s : State} (h : s.phase = .running) :
    exec .southTransmitComplete s = .next s.completeCommand := by
  show Host.Outcome.next _ = _
  rw [State.whileRunning_running h]

theorem exec_probeTransmitComplete {s : State} (h : s.phase = .running) :
    exec .probeTransmitComplete s = .next s.completeProbe := by
  show Host.Outcome.next _ = _
  rw [State.whileRunning_running h]

/-! ### The expiries of an entry (R112, R120, R185) -/

section Expiry

variable {addr : ChannelAddr} {s : State} {e : EnrolEntry}

theorem EnrolEntry.due_of_reached {deadline : Time} (hd : e.deadline = some deadline)
    (hr : 0 ≤ (s.now - deadline).toInt) : e.due s.now = true := by
  rw [EnrolEntry.due, hd]
  exact reached_iff.mpr hr

theorem State.expireProbeWait_due (he : enrolAt s.enrol addr = some e) (hs : e.state = .probing)
    (hdue : e.due s.now = true) : s.expireProbeWait addr = s.probeWaitExpired e := by
  unfold State.expireProbeWait
  simp only [he, hs, hdue, and_self, if_true]

theorem State.expireHold_due (he : enrolAt s.enrol addr = some e) (hs : e.state ≠ .probing)
    (hdue : e.due s.now = true) : s.expireHold addr = { s with enrol := removeEnrol s.enrol addr } := by
  unfold State.expireHold
  simp only [he, hdue, and_true, if_pos hs]

theorem State.probeWaitExpired_retried (h : e.attempts ≤ s.settings.probeRetries) :
    s.probeWaitExpired e =
      State.southJoined
        { s with enrol := changeEnrol s.enrol e.addr (fun x => { x with probeOwed := true, deadline := none }) } :=
  if_pos h

theorem State.probeWaitExpired_failed (h : s.settings.probeRetries < e.attempts) :
    s.probeWaitExpired e =
      State.offerNotice
        { kind := .probeFailed, addr := e.addr, detail := BitVec.ofNat 16 e.attempts, time := s.now }
        { s with enrol := changeEnrol s.enrol e.addr
                  (fun x => { x with state := .failed, deadline := some (s.now + Config.holdTime) }) } :=
  if_neg (not_le.mpr h)

theorem exec_probeWaitExpiry (h : s.phase = .running) :
    exec (.probeWaitExpiry addr) s = .next (s.expireProbeWait addr) := by
  show Host.Outcome.next _ = _
  rw [State.whileRunning_running h]

theorem exec_holdExpiry (h : s.phase = .running) : exec (.holdExpiry addr) s = .next (s.expireHold addr) := by
  show Host.Outcome.next _ = _
  rw [State.whileRunning_running h]

end Expiry

/-! ### Percentages of the span (R116) -/

theorem percentOffset_mono (span : Nat) {p q : Nat} (h : p ≤ q) : percentOffset span p ≤ percentOffset span q :=
  Nat.div_le_div_right (Nat.mul_le_mul_left span h)

/-- Rounding down two percentages apart never exceeds rounding down their sum (R116). -/
theorem percentOffset_add_le (span p q : Nat) :
    percentOffset span p + percentOffset span q ≤ percentOffset span (p + q) := by
  unfold percentOffset
  rw [Nat.mul_add]
  exact Nat.div_add_div_le_add_div ..

theorem percentOffset_le_span (span : Nat) {p : Nat} (h : p ≤ 100) : percentOffset span p ≤ span :=
  Nat.div_le_of_le_mul (by rw [Nat.mul_comm]; exact Nat.mul_le_mul_right span h)

section Built

variable {d : Descriptor} {c : ClassEntry}

theorem Descriptor.span_cast (h : d.rangeLow.toInt ≤ d.rangeHigh.toInt) :
    (d.span : Int) = d.rangeHigh.toInt - d.rangeLow.toInt :=
  Int.toNat_of_nonneg (by omega)

theorem Descriptor.span_le (d : Descriptor) : d.span ≤ 65535 := by
  have hhigh := d.rangeHigh.toInt_lt
  have hlow := d.rangeLow.le_toInt
  unfold Descriptor.span
  omega

/-- A limit at most 100 percent into the range lies in it, so that its 16 bits hold it exactly (R116). -/
theorem Descriptor.limit_toInt (h : d.rangeLow.toInt ≤ d.rangeHigh.toInt) {p : Nat} (hp : p ≤ 100) :
    (d.limit p).toInt = d.rangeLow.toInt + percentOffset d.span p := by
  have hoffset := percentOffset_le_span d.span hp
  have hspan := Descriptor.span_cast h
  have hhigh := d.rangeHigh.toInt_lt
  have hlow := d.rangeLow.le_toInt
  exact BitVec.toInt_ofInt_eq_self (by decide) (by omega) (by omega)

/-! ### The template checks and the row checks (R10, R12) -/

/-- The percentages that R12 bounds, with what its fourth check leaves between the limits. -/
theorem templateOk_percents (h : templateOk c = true) :
    (∀ p, c.lowPercent = some p → p ≤ 100) ∧ (∀ p, c.highPercent = some p → p ≤ 100) ∧
      (∀ p, c.tripPercent = some p → p ≤ 100) ∧ c.hysteresisPercent ≤ 25 ∧
      ∀ l u, c.lowPercent = some l → c.highPercent = some u → l + 2 * c.hysteresisPercent ≤ u := by
  simp only [templateOk, Bool.and_eq_true, Option.all_eq_true, decide_eq_true_eq] at h
  obtain ⟨⟨⟨⟨⟨⟨-, hlow⟩, hhigh⟩, htrip⟩, hhyst⟩, hroom⟩, -⟩ := h
  refine ⟨hlow, hhigh, htrip, hhyst, fun l u hl hu => ?_⟩
  simpa [percentsOk, hl, hu] using hroom

/-- The fields of a template that a row takes over as they are, each in its range (R12, R115). -/
theorem templateOk_copied (h : templateOk c = true) :
    depthOk c.depth = true ∧
      (1 ≤ c.persistence && c.persistence ≤ 15 && 1 ≤ c.tripPersistence && c.tripPersistence ≤ 4) = true ∧
      ∀ w, c.staleMode = .fixed w → 10 ≤ w ∧ w ≤ 60000 := by
  simp only [templateOk, Bool.and_eq_true, decide_eq_true_eq] at h ⊢
  obtain ⟨⟨⟨⟨⟨⟨⟨⟨hdepth, hpersist⟩, htripPersist⟩, -⟩, -⟩, -⟩, -⟩, -⟩, hmode⟩ := h
  refine ⟨hdepth, ⟨⟨hpersist, htripPersist.1⟩, htripPersist.2⟩, fun w hw => ?_⟩
  simpa [hw] using hmode

/-- A configuration that passes each check of Table 1-3 has no fault (R10). -/
theorem RowConfig.valid_of_checks {r : RowConfig} (hdepth : depthOk r.depth = true)
    (hpersist : (1 ≤ r.persistence && r.persistence ≤ 15 && 1 ≤ r.tripPersistence && r.tripPersistence ≤ 4) = true)
    (hhyst : r.hysteresis ≤ 32767) (hlimits : limitsOk r.lowLimit r.highLimit r.hysteresis = true)
    (hwindow : windowOk r.staleWindow = true) (hgate : r.gate.any (fun g => g.addr == r.addr) = false)
    (hrange : r.range.any (fun x => decide (x.high.toInt < x.low.toInt)) = false) : r.valid := by
  simp [RowConfig.valid, rowFault, hdepth, hpersist, hhyst, hlimits, hwindow, hgate, hrange]

/-! ### The built row (R115 to R118) -/

theorem builtWindow_auto {period : Nat} (h : period ≠ 0) :
    builtWindow .auto period = min 60000 (max 10 (4 * period)) := if_neg h

theorem windowOk_builtWindow {mode : StaleMode} (h : ∀ w, mode = .fixed w → 10 ≤ w ∧ w ≤ 60000) (period : Nat) :
    windowOk (builtWindow mode period) = true := by
  cases mode with
  | none => rfl
  | fixed w => simp [windowOk, builtWindow, h w rfl]
  | auto =>
    by_cases hp : period = 0
    · simp [windowOk, builtWindow, hp]
    · rw [builtWindow_auto hp]
      simp [windowOk]

/-- The floors keep the room that the percentages leave between the limits (R116, R118). -/
theorem limitsOk_built (hrange : d.rangeLow.toInt ≤ d.rangeHigh.toInt) (hok : templateOk c = true) :
    limitsOk (c.lowPercent.map d.limit) (c.highPercent.map d.limit) (percentOffset d.span c.hysteresisPercent)
      = true := by
  obtain ⟨hlow, hhigh, -, -, hroom⟩ := templateOk_percents hok
  cases hl : c.lowPercent with
  | none => rfl
  | some l =>
    cases hu : c.highPercent with
    | none => rfl
    | some u =>
      have hfloors : percentOffset d.span l + (percentOffset d.span c.hysteresisPercent +
          percentOffset d.span c.hysteresisPercent) ≤ percentOffset d.span u :=
        calc _ ≤ percentOffset d.span l + percentOffset d.span (c.hysteresisPercent + c.hysteresisPercent) :=
              Nat.add_le_add_left (percentOffset_add_le ..) _
          _ ≤ percentOffset d.span (l + (c.hysteresisPercent + c.hysteresisPercent)) := percentOffset_add_le ..
          _ ≤ percentOffset d.span u := percentOffset_mono _ (by have := hroom l u hl hu; omega)
      simp only [Option.map_some, limitsOk, decide_eq_true_eq, Descriptor.limit_toInt hrange (hlow l hl),
        Descriptor.limit_toInt hrange (hhigh u hu)]
      omega

/-- A row built on an ordered range from a valid template passes the row checks (R118). -/
theorem buildRow_valid (hrange : d.rangeLow.toInt ≤ d.rangeHigh.toInt) (hok : templateOk c = true) :
    (buildRow d c).valid := by
  obtain ⟨hdepth, hpersist, hfixed⟩ := templateOk_copied hok
  obtain ⟨-, -, -, hpercent, -⟩ := templateOk_percents hok
  have hhyst : percentOffset d.span c.hysteresisPercent ≤ 32767 :=
    calc _ ≤ percentOffset d.span 25 := percentOffset_mono _ hpercent
      _ ≤ 32767 := by have := d.span_le; unfold percentOffset; omega
  exact RowConfig.valid_of_checks hdepth hpersist hhyst (limitsOk_built hrange hok)
    (windowOk_builtWindow hfixed _) rfl (by simpa [buildRow] using hrange)

end Built

end Sys2Proof.Machine
end

section
/-! The statements of channel enrolment (chapter 6). -/

namespace Sys2Proof.Machine

open Sys2Proof

/-- Settles O13: each completion is its work and then the South pick, whose three outcomes are those of R166. -/
theorem southPick : Obligations.SouthPick := by
  intro s hrun picked
  have hpicked : ∀ u : State, u.pickSouth = picked u := by
    intro u
    obtain ⟨f, rest, hq, hpick⟩ | ⟨e, hq, hfind, hpick⟩ | ⟨hq, hnone, hpick⟩ := u.pickSouth_cases
    · simp only [hpick, picked, hq]
    · simp only [hpick, picked, hq, hfind]
    · have hfind : u.enrol.find? (·.probeOwed) = none := by simpa using hnone
      simp only [hpick, picked, hq, hfind]
  refine ⟨fun f htx => ?_, fun addr f htx => ?_⟩
  · rw [exec_southTransmitComplete hrun, State.completeCommand_command htx, hpicked]
  · rw [exec_probeTransmitComplete hrun, State.completeProbe_probe htx, State.probeCompleted_eq, hpicked]
    rfl

/-- Settles O31: the copied fields hold by the definition; each placed limit and the hysteresis are the floors on the integers,
and the validity is that of a row built from a valid template. -/
theorem rowBuilt : Obligations.RowBuilt := by
  intro d c hrange hok row span placed
  have hspan : (d.span : Int) = span := Descriptor.span_cast hrange
  have hoffset : ∀ p : Nat, (percentOffset d.span p : Int) = span * p / 100 := fun p => by
    rw [← hspan]
    rfl
  have hplaced : ∀ percent : Option Nat, (∀ p, percent = some p → p ≤ 100) → placed percent (percent.map d.limit) := by
    rintro (_ | p) hp
    · trivial
    · show (d.limit p).toInt = _
      rw [Descriptor.limit_toInt hrange (hp p rfl), hoffset]
  have hwindow : row.staleWindow = builtWindow c.staleMode d.period.toNat := rfl
  obtain ⟨hlow, hhigh, htrip, -, -⟩ := templateOk_percents hok
  refine ⟨rfl, rfl, rfl, rfl, rfl, rfl, rfl, rfl, hplaced _ hlow, hplaced _ hhigh, hplaced _ htrip, hoffset _, rfl, rfl,
    fun hm => ?notSupervised, fun w hm => ?fixed, fun hm hp => ?autoZero, fun hm hp => ?auto, buildRow_valid hrange hok⟩
  case notSupervised => rw [hwindow, hm]; rfl
  case fixed => rw [hwindow, hm]; rfl
  case autoZero => rw [hwindow, hm, hp]; rfl
  case auto =>
    have hperiod : d.period.toNat ≠ 0 := fun hzero => hp (BitVec.eq_of_toNat_eq hzero)
    rw [hwindow, hm, builtWindow_auto hperiod]

/-- Settles O32: the deadline reached makes the entry due, and the attempts against the retries decide a probe wait. -/
theorem enrolmentExpired : Obligations.EnrolmentExpired := by
  intro addr s e deadline changed hrun he hd hreached
  have hdue : e.due s.now = true := EnrolEntry.due_of_reached hd hreached
  have haddr : e.addr = addr := addr_of_enrolAt he
  refine ⟨fun hs hretry => ?_, fun hs hout => ?_, fun hs => ?_⟩
  · rw [exec_probeWaitExpiry hrun, State.expireProbeWait_due he hs hdue, State.probeWaitExpired_retried hretry,
      changeEnrol_eq_map, haddr]
  · rw [exec_probeWaitExpiry hrun, State.expireProbeWait_due he hs hdue, State.probeWaitExpired_failed hout,
      changeEnrol_eq_map, haddr]
    rfl
  · rw [exec_holdExpiry hrun, State.expireHold_due he hs hdue]
    rfl

end Sys2Proof.Machine
end

section
/-! SUPPORT. Sample capture (chapter 8): what an element and a raise notice do to the record, by its state. -/

namespace Sys2Proof.Machine

open Sys2Proof

/-! ### The ring and the fill (R149) -/

section Buffer

variable {c : Capture} {e : Element}

theorem Capture.ring_of_preCount_zero (h : c.preCount = 0) : c.ring e = c := if_pos h

theorem Capture.ring_room (hpre : 0 < c.preCount) (h : c.buffer.length < c.preCount) :
    c.ring e = { c with buffer := c.buffer ++ [e] } := by
  unfold Capture.ring; rw [if_neg hpre.ne', if_neg h.ne]

theorem Capture.ring_full (hpre : 0 < c.preCount) (h : c.buffer.length = c.preCount) :
    c.ring e = { c with buffer := c.buffer.tail ++ [e] } := by
  unfold Capture.ring; rw [if_neg hpre.ne', if_pos h, List.drop_one]

theorem Capture.fillCount_of_index {index : Nat} (h : c.triggerIndex = some index) :
    c.fillCount = index + c.postCount := by
  unfold Capture.fillCount; rw [h, Option.getD_some]

/-- Short of the fill count a triggered record stays so. -/
theorem Capture.append_unfilled (hs : c.state = .triggered) (h : c.buffer.length + 1 ≠ c.fillCount) :
    c.append e = { c with buffer := c.buffer ++ [e] } := by
  unfold Capture.append; rw [if_neg h, ← hs]

theorem Capture.append_filled (h : c.buffer.length + 1 = c.fillCount) :
    c.append e = { c with state := .full, buffer := c.buffer ++ [e] } := by
  unfold Capture.append; rw [if_pos h]

end Buffer

/-! ### An element taken (R149, R155) -/

section Element

variable {addr : ChannelAddr} {e : Element} {s : State}

theorem State.takeElement_ignored
    (h : s.capture.channel ≠ some addr ∨ s.capture.state = .idle ∨ s.capture.state = .full) :
    s.takeElement addr e = s := by
  unfold State.takeElement
  by_cases hc : s.capture.channel = some addr
  · rw [if_pos hc]
    obtain hidle | hfull := h.resolve_left (not_not_intro hc)
    · rw [hidle]
    · rw [hfull]
  · rw [if_neg hc]

theorem State.takeElement_armed (hc : s.capture.channel = some addr) (hs : s.capture.state = .armed) :
    s.takeElement addr e = { s with capture := s.capture.ring e } := by
  unfold State.takeElement; rw [if_pos hc, hs]

theorem State.takeElement_triggered (hc : s.capture.channel = some addr) (hs : s.capture.state = .triggered) :
    s.takeElement addr e =
      if (s.capture.append e).state = .full then
        State.offerNotice (s.capture.append e).doneNotice { s with capture := s.capture.append e }
      else { s with capture := s.capture.append e } := by
  unfold State.takeElement; rw [if_pos hc, hs]

theorem State.takeElement_unfilled (hc : s.capture.channel = some addr) (hs : s.capture.state = .triggered)
    (h : s.capture.buffer.length + 1 ≠ s.capture.fillCount) :
    s.takeElement addr e = { s with capture := { s.capture with buffer := s.capture.buffer ++ [e] } } := by
  have hopen : ¬ s.capture.state = .full := by rw [hs]; decide
  rw [State.takeElement_triggered hc hs, Capture.append_unfilled hs h, if_neg hopen]

theorem State.takeElement_filled (hc : s.capture.channel = some addr) (hs : s.capture.state = .triggered)
    (h : s.capture.buffer.length + 1 = s.capture.fillCount) :
    s.takeElement addr e =
      State.offerNotice
        { kind := .captureDone, addr, detail := BitVec.ofNat 16 s.capture.fillCount,
          time := s.capture.triggerTime.getD 0 }
        { s with capture := { s.capture with state := .full, buffer := s.capture.buffer ++ [e] } } := by
  rw [State.takeElement_triggered hc hs, Capture.append_filled h, if_pos rfl, ← h]
  simp only [Capture.doneNotice, hc, Option.getD_some, List.length_append, List.length_singleton]

end Element

/-! ### A raise notice taken (R98, R150) -/

section RaiseNotice

variable {addr : ChannelAddr} {time : Time} {s : State}

theorem State.takeRaiseNotice_triggers (hs : s.capture.state = .armed) (hm : s.capture.trigger = .onRaise)
    (hc : s.capture.channel = some addr) :
    s.takeRaiseNotice addr time = { s with capture := s.capture.triggered time } := if_pos ⟨hs, hm, hc⟩

theorem State.takeRaiseNotice_ignored
    (h : s.capture.state ≠ .armed ∨ s.capture.trigger ≠ .onRaise ∨ s.capture.channel ≠ some addr) :
    s.takeRaiseNotice addr time = s := by
  refine if_neg ?_
  rintro ⟨hs, hm, hc⟩
  obtain hstate | hmode | hchannel := h
  · exact hstate hs
  · exact hmode hm
  · exact hchannel hc

end RaiseNotice

end Sys2Proof.Machine
end

section
/-! The statement of sample capture (chapter 8). -/

namespace Sys2Proof.Machine

open Sys2Proof

/-- Settles O47: the state of the record decides between letting go, the ring and the fill, and the held count against the pre
count or the fill count decides within. -/
theorem captureFilled : Obligations.CaptureFilled := by
  intro addr e time s c kept
  refine ⟨State.takeElement_ignored, fun hc hs hnone => ?emptyRing, fun hc hs hpre hroom => ?ringRoom,
    fun hc hs hpre hfull => ?ringFull, fun index hc hs hi hmore => ?unfilled,
    fun index start hc hs hi ht hlast => ?filled, State.takeRaiseNotice_triggers, State.takeRaiseNotice_ignored⟩
  case emptyRing => rw [State.takeElement_armed hc hs, Capture.ring_of_preCount_zero hnone]
  case ringRoom => rw [State.takeElement_armed hc hs, Capture.ring_room hpre hroom]
  case ringFull => rw [State.takeElement_armed hc hs, Capture.ring_full hpre hfull]
  case unfilled =>
    rw [← Capture.fillCount_of_index hi] at hmore
    exact State.takeElement_unfilled hc hs hmore
  case filled =>
    have hfill : c.fillCount = index + c.postCount := Capture.fillCount_of_index hi
    have hstart : c.triggerTime.getD 0 = start := by rw [ht, Option.getD_some]
    rw [State.takeElement_filled hc hs (hlast.trans hfill.symm), hfill, hstart]

end Sys2Proof.Machine
end

section
/-! SUPPORT. What the blocks can do, said once: each block's work is a chain of elementary effects, so that a law kept by
every effect and by the pins is kept by every step. -/

namespace Sys2Proof.Machine

open Sys2Proof

/-! ### The effects -/

/-- What the blocks do outside the tables, the lists, the session and the latch: the queues and transmitters, the capture, the
references, the receivers and the counters. The premises are the guards under which the model does it. -/
inductive Traffic : State → State → Prop
  | waiting (s : State) (l : List Instr) : Traffic s { s with pending := l }
  | time (s : State) : Traffic s s.incrementTime
  | receiver (s : State) (port : Port) (r : Receiver) : Traffic s (s.setReceiver port r)
  | counted (s : State) (north south : PortCounters) (part : PartCounters) (reads : Nat) :
    Traffic s { s with northCounters := north, southCounters := south, partCounters := part, freeReads := reads }
  | forward (s : State) (f : Frame) : Traffic s (s.offerForward f)
  | notice (s : State) (n : Notice) : Traffic s (s.offerNotice n)
  | response (s : State) (dest : NodeAddr) (r : Response) (room : s.responseQ.length < Config.responseCapacity) :
    Traffic s (s.placeResponse dest r)
  | northCompleted (s : State) : Traffic s s.completeNorth
  | command (s : State) (f : Frame) : Traffic s (s.offerCommand f)
  | commandCompleted (s : State) : Traffic s s.completeCommand
  | acked (s : State) (addr : ChannelAddr) (kind : AlarmKind) (episode : BitVec 16) :
    Traffic s (ackEntry addr kind episode s).1
  | overflowAcked (s : State) : Traffic s (ackOverflow s).1
  | armed (s : State) (addr : ChannelAddr) (pre post : Nat) (mode : TriggerMode) (some : 1 ≤ post)
      (fits : pre + post ≤ Config.captureCapacity) :
    Traffic s { s with capture := { state := .armed, channel := Option.some addr, preCount := pre, postCount := post,
                                    trigger := mode, triggerIndex := none, triggerTime := none, buffer := [] } }
  | triggered (s : State) (time : Time) (armed : s.capture.state = .armed) :
    Traffic s { s with capture := s.capture.triggered time }
  | element (s : State) (addr : ChannelAddr) (e : Element) : Traffic s (s.takeElement addr e)
  | aborted (s : State) : Traffic s s.abortCapture
  | idled (s : State) : Traffic s { s with capture := s.capture.toIdle }

/-- What the blocks do but for the engine's work on a record: traffic, and the changes of the tables, the lists, the session
and the latch. -/
inductive Effect : State → State → Prop
  | traffic {s t : State} (h : Traffic s t) : Effect s t
  | probeCompleted (s : State) : Effect s s.completeProbe
  | created (s : State) (addr : ChannelAddr) (mode : s.settings.mode ≠ .off) (noRow : rowAt s.rows addr = none)
      (new : enrolAt s.enrol addr = none) (room : s.enrol.length < Config.enrolCapacity) : Effect s (s.createEnrol addr)
  | restarted (s : State) (addr : ChannelAddr) :
    Effect s (State.southJoined { s with enrol := changeEnrol s.enrol addr EnrolEntry.restarted })
  | owed (s : State) (e : EnrolEntry) (held : enrolAt s.enrol e.addr = some e) (probing : e.state = .probing)
      (retry : e.attempts ≤ s.settings.probeRetries) :
    Effect s (State.southJoined
      { s with enrol := changeEnrol s.enrol e.addr (fun x => { x with probeOwed := true, deadline := none }) })
  | failed (s : State) (e : EnrolEntry) (time : Time) (held : enrolAt s.enrol e.addr = some e) (probing : e.state = .probing)
      (due : e.deadline.isSome = true) :
    Effect s { s with enrol := changeEnrol s.enrol e.addr (fun x => { x with state := .failed, deadline := some time }) }
  | refused (s : State) (addr : ChannelAddr) (reason : RefuseReason) :
    Effect s { s with enrol := changeEnrol s.enrol addr (EnrolEntry.refused reason s.now) }
  | held (s : State) (addr : ChannelAddr) : Effect s { s with enrol := removeEnrol s.enrol addr }
  | settings (s : State) (c : Settings) (range : c.inRange) :
    Effect s { s with settings := c, enrol := if c.mode = .off then [] else s.enrol }
  | inserted (s : State) (c : RowConfig) (e : EnrolEntry) (listed : enrolAt s.enrol c.addr = some e)
      (room : s.rows.length < Config.rowCapacity) (valid : (∀ x ∈ s.classes, templateOk x = true) → c.valid) :
    Effect s (s.insertConfig c)
  | committed (s : State) (fits : rowsAfter s.rows s.staging ≤ Config.rowCapacity) :
    Effect s { s.staging.foldl State.applyItem s with staging := [] }
  | classReplaced (s : State) (c : ClassEntry) (ok : c.code ≠ 0 ∧ templateOk c = true) :
    Effect s { s with classes := s.classes.map (fun x => if x.code == c.code then c else x) }
  | classInserted (s : State) (c : ClassEntry) (ok : c.code ≠ 0 ∧ templateOk c = true) (new : classAt s.classes c.code = none)
      (room : s.classes.length < Config.classCapacity) : Effect s { s with classes := insertClass c s.classes }
  | classDeleted (s : State) (code : Byte) : Effect s { s with classes := s.classes.filter (fun c => c.code != code) }
  | staged (s : State) (item : StagedItem) (ses : Session) (opened : s.session = some ses)
      (valid : ∀ c, item = .row c → c.valid) : Effect s (stageItem item s).1
  | unstaged (s : State) : Effect s { s with staging := [] }
  | leased (s : State) (ses later : Session) (opened : s.session = some ses)
      (range : 100 ≤ ses.lease ∧ ses.lease ≤ 10000 → 100 ≤ later.lease ∧ later.lease ≤ 10000) :
    Effect s { s with session := some later }
  | opened (s : State) (ses : Session) (range : 100 ≤ ses.lease ∧ ses.lease ≤ 10000) :
    Effect s { s with session := some ses, staging := [], replay := none }
  | ended (s : State) : Effect s s.endSession
  | replayed (s : State) (r : Response) (ses : Session) (opened : s.session = some ses) : Effect s { s with replay := some r }
  | released (s : State) (free : ∀ r ∈ s.rows, r.holdsLatch = false) : Effect s { s with tripLatch := .clear }
  | resetRuntime (s : State) : Effect s s.resetRuntime
  | resetTables (s : State) : Effect s s.resetTables

/-- What the engine does for an arrival or a stale expiry: the Trip Latch set, the record written, a raise or a clear taken by the
Alarm Unit. A record written keeps its ranges, and holds the Trip Latch only if it is set. -/
inductive EngineEffect : State → State → Prop
  | latched (s : State) : EngineEffect s { s with tripLatch := .set }
  | recorded (s : State) (row : Row) (rt : Runtime) (found : rowAt s.rows row.config.addr = some row)
      (range : row.config.valid → row.inRange → Row.inRange { row with rt })
      (latch : Row.holdsLatch { row with rt } = true → row.holdsLatch = true ∨ s.tripLatch = .set) :
    EngineEffect s (s.setRecord row.config.addr rt)
  | raised (s : State) (addr : ChannelAddr) (kind : AlarmKind) (time : Time) (v : Value) :
    EngineEffect s (s.raiseEntry addr kind time v)
  | cleared (s : State) (addr : ChannelAddr) (kind : AlarmKind) (time : Time) : EngineEffect s (s.takeClear addr kind time)

end Sys2Proof.Machine
end

section
/-! SUPPORT. The ranges of a runtime record (Table 1-6), group by group, and that an arrival's work keeps them. -/

namespace Sys2Proof.Machine

open Sys2Proof

/-! ### What a valid configuration gives (R10) -/

/-- No fault is given exactly when each check of Table 1-3 passes. -/
theorem rowFault_eq_none_iff {c : RowConfig} {policy : Byte} :
    rowFault c policy = none ↔ depthOk c.depth = true ∧
      (1 ≤ c.persistence && c.persistence ≤ 15 && 1 ≤ c.tripPersistence && c.tripPersistence ≤ 4) = true ∧
      (c.hysteresis ≤ 32767 && limitsOk c.lowLimit c.highLimit c.hysteresis) = true ∧
      windowOk c.staleWindow = true ∧ ¬ c.gate.any (fun g => g.addr == c.addr) = true ∧
      ¬ (policyOf policy).isNone = true ∧ ¬ c.range.any (fun r => decide (r.high.toInt < r.low.toInt)) = true := by
  constructor
  · intro h
    unfold rowFault at h
    split_ifs at h with h1 h2 h3 h4 h5 h6 h7
    exact ⟨Bool.eq_true_of_not_eq_false h1, Bool.eq_true_of_not_eq_false h2, Bool.eq_true_of_not_eq_false h3,
      Bool.eq_true_of_not_eq_false h4, h5, h6, h7⟩
  · rintro ⟨h1, h2, h3, h4, h5, h6, h7⟩
    rw [rowFault, if_neg (by rw [h1]; decide), if_neg (by rw [h2]; decide), if_neg (by rw [h3]; decide),
      if_neg (by rw [h4]; decide), if_neg h5, if_neg h6, if_neg h7]

theorem RowConfig.valid_depth {c : RowConfig} (h : c.valid) : 0 < c.depth := by
  obtain ⟨hd, -⟩ := rowFault_eq_none_iff.mp h
  have hmem : c.depth ∈ [1, 2, 4, 8, 16, 32, 64] := List.contains_iff_mem.mp hd
  simp only [List.mem_cons, List.not_mem_nil, or_false] at hmem
  omega

theorem RowConfig.valid_persistence {c : RowConfig} (h : c.valid) : 0 < c.persistence ∧ 0 < c.tripPersistence := by
  obtain ⟨-, hp, -⟩ := rowFault_eq_none_iff.mp h
  simp only [Bool.and_eq_true, decide_eq_true_eq] at hp
  omega

/-! ### The groups of a record's ranges -/

/-- The accumulator's ranges, for a count that may just have reached the depth (R33). -/
def Runtime.Summed (r : Runtime) : Prop :=
  (r.count = 0 ↔ r.windowMin = none) ∧ (r.count = 0 ↔ r.windowMax = none) ∧
    -(32768 * (r.count : Int)) ≤ r.sum ∧ r.sum ≤ 32767 * (r.count : Int)

/-- The saturating counts' ranges (R42). -/
def Runtime.Counted (r : Runtime) : Prop := r.gapCount ≤ 65535 ∧ r.dupCount ≤ 65535 ∧ r.dropCount ≤ 65535

/-- A persistence counter's range, and that of an inactive condition's (R51, R53, R65). -/
def Watch.Ranged (cap persistence : Nat) (w : Watch) : Prop :=
  w.counter ≤ cap ∧ (w.active = false → w.counter < persistence)

/-- The three persistence counters' ranges. -/
def Runtime.Watched (c : RowConfig) (r : Runtime) : Prop :=
  r.low.Ranged 15 c.persistence ∧ r.high.Ranged 15 c.persistence ∧ r.trip.Ranged 4 c.tripPersistence

/-- When a stale deadline is present (R7, R72, R73). -/
def Runtime.Supervised (c : RowConfig) (r : Runtime) : Prop :=
  r.staleDeadline.isSome = true ↔ c.staleWindow ≠ 0 ∧ c.policy ≠ .block ∧ r.stale = false

theorem Row.inRange_iff {r : Row} :
    r.inRange ↔ r.rt.count < r.config.depth ∧ r.rt.Summed ∧ r.rt.Counted ∧ r.rt.Watched r.config ∧
      r.rt.Supervised r.config := by
  constructor
  · rintro ⟨hd, hmin, hmax, hneg, hpos, hgap, hdup, hdrop, hlow, hhigh, htrip, hlow', hhigh', htrip', hstale⟩
    exact ⟨hd, ⟨hmin, hmax, hneg, hpos⟩, ⟨hgap, hdup, hdrop⟩, ⟨⟨hlow, hlow'⟩, ⟨hhigh, hhigh'⟩, ⟨htrip, htrip'⟩⟩, hstale⟩
  · rintro ⟨hd, ⟨hmin, hmax, hneg, hpos⟩, ⟨hgap, hdup, hdrop⟩, ⟨⟨hlow, hlow'⟩, ⟨hhigh, hhigh'⟩, ⟨htrip, htrip'⟩⟩, hstale⟩
    exact ⟨hd, hmin, hmax, hneg, hpos, hgap, hdup, hdrop, hlow, hhigh, htrip, hlow', hhigh', htrip', hstale⟩

/-! ### Fresh records, duplicates, expiries, offers -/

/-- A fresh record of a valid configuration lies in its ranges (R15). -/
theorem freshRow_inRange {c : RowConfig} (h : c.valid) (now : Time) : (freshRow c now).inRange := by
  obtain ⟨hp, htp⟩ := RowConfig.valid_persistence h
  refine Row.inRange_iff.mpr ⟨RowConfig.valid_depth h, ?_, ?_, ?_, ?_⟩
  · simp [Runtime.Summed, freshRow, freshRecord]
  · simp [Runtime.Counted, freshRow, freshRecord]
  · simp [Runtime.Watched, Watch.Ranged, freshRow, freshRecord, hp, htp]
  · by_cases hs : c.staleWindow ≠ 0 ∧ c.policy ≠ .block
    · simp [Runtime.Supervised, freshRow, freshRecord, hs]
    · simp only [Runtime.Supervised, freshRow, freshRecord, if_neg hs, Option.isSome_none, Bool.false_eq_true, false_iff]
      exact fun hn => hs ⟨hn.1, hn.2.1⟩

theorem duplicate_inRange {c : RowConfig} {r : Runtime} (h : Row.inRange { config := c, rt := r }) :
    Row.inRange { config := c, rt := { r with dupCount := satInc Config.countMax r.dupCount } } := by
  obtain ⟨hd, hs, ⟨hgap, -, hdrop⟩, hw, hv⟩ := Row.inRange_iff.mp h
  exact Row.inRange_iff.mpr ⟨hd, hs, ⟨hgap, min_le_left _ _, hdrop⟩, hw, hv⟩

theorem expired_inRange {c : RowConfig} {r : Runtime} (h : Row.inRange { config := c, rt := r }) :
    Row.inRange { config := c, rt := { r with stale := true, staleDeadline := none } } := by
  obtain ⟨hd, hs, hc, hw, -⟩ := Row.inRange_iff.mp h
  exact Row.inRange_iff.mpr ⟨hd, hs, hc, hw, by simp [Runtime.Supervised]⟩

theorem afterOffer_inRange {c : RowConfig} {r : Runtime} (joined : Bool) (h : Row.inRange { config := c, rt := r }) :
    Row.inRange { config := c, rt := afterOffer c joined r } := by
  obtain ⟨hd, hs, ⟨hgap, hdup, hdrop⟩, hw, hv⟩ := Row.inRange_iff.mp h
  unfold afterOffer
  split
  · split <;> exact Row.inRange_iff.mpr ⟨hd, hs, ⟨hgap, hdup, hdrop⟩, hw, hv⟩
  · exact Row.inRange_iff.mpr ⟨hd, hs, ⟨hgap, hdup, min_le_left _ _⟩, hw, hv⟩

/-! ### The steps of an arrival (R31) -/

/-- An evaluation keeps a counter's range (R51, R53, R65). -/
theorem Watch.move_ranged {cap persistence : Nat} {w : Watch} (hp : 0 < persistence) (h : w.Ranged cap persistence)
    (zone : Zone) : (w.move cap persistence zone).Ranged cap persistence := by
  cases zone with
  | raise =>
    refine ⟨min_le_left _ _, fun ha => ?_⟩
    obtain ⟨hidle, hne⟩ : w.active = false ∧ satInc cap w.counter ≠ persistence := by
      simpa [Watch.move, Bool.or_eq_false_iff] using ha
    have hle : satInc cap w.counter ≤ w.counter + 1 := min_le_right _ _
    have hlt := h.2 hidle
    show satInc cap w.counter < persistence
    omega
  | hold => exact ⟨Nat.zero_le _, fun _ => hp⟩
  | clear => exact ⟨Nat.zero_le _, fun _ => hp⟩

theorem Watch.cleared_ranged {cap persistence : Nat} (hp : 0 < persistence) :
    Watch.Ranged cap persistence { counter := 0, active := false } := ⟨Nat.zero_le _, fun _ => hp⟩

theorem recordSequence_inRange {c : RowConfig} {r : Runtime} (m : Sample) (h : Row.inRange { config := c, rt := r }) :
    Row.inRange { config := c, rt := recordSequence m r } := by
  obtain ⟨hd, hs, ⟨-, hdup, hdrop⟩, hw, hv⟩ := Row.inRange_iff.mp h
  exact Row.inRange_iff.mpr ⟨hd, hs, ⟨min_le_left _ _, hdup, hdrop⟩, hw, hv⟩

theorem restartStale_inRange {c : RowConfig} {r : Runtime} (now : Time) (hp : c.policy ≠ .block)
    (h : Row.inRange { config := c, rt := r }) : Row.inRange { config := c, rt := restartStale c now r } := by
  unfold restartStale
  split
  · rename_i hwindow
    obtain ⟨hd, hs, hc, hw, -⟩ := Row.inRange_iff.mp h
    exact Row.inRange_iff.mpr ⟨hd, hs, hc, hw, by simp [Runtime.Supervised, hwindow, hp]⟩
  · exact h

theorem evaluateTrip_inRange {c : RowConfig} {r : Runtime} (v : Value) (hc : c.valid)
    (h : Row.inRange { config := c, rt := r }) : Row.inRange { config := c, rt := evaluateTrip c v r } := by
  unfold evaluateTrip
  split
  · obtain ⟨hd, hs, hn, ⟨hlow, hhigh, htrip⟩, hv⟩ := Row.inRange_iff.mp h
    exact Row.inRange_iff.mpr
      ⟨hd, hs, hn, ⟨hlow, hhigh, Watch.move_ranged (RowConfig.valid_persistence hc).2 htrip _⟩, hv⟩
  · exact h

/-- A value joined keeps the accumulator's ranges (R33). -/
theorem accumulate_summed {r : Runtime} (v : Value) (h : r.Summed) : (accumulate v r).Summed := by
  obtain ⟨-, -, hlow, hhigh⟩ := h
  have hv := v.le_toInt
  have hv' := v.toInt_lt
  refine ⟨by simp [accumulate], by simp [accumulate], ?_, ?_⟩
  · show -(32768 * ((r.count + 1 : Nat) : Int)) ≤ r.sum + v.toInt
    omega
  · show r.sum + v.toInt ≤ 32767 * ((r.count + 1 : Nat) : Int)
    omega

theorem evaluate_watched {c : RowConfig} {r : Runtime} (gate : Bool) (mean : Value) (hc : c.valid) (h : r.Watched c) :
    (evaluate c gate mean r).Watched c := by
  obtain ⟨hlow, hhigh, htrip⟩ := h
  obtain ⟨hp, -⟩ := RowConfig.valid_persistence hc
  refine ⟨?_, ?_, htrip⟩
  · show (lowAfter c gate mean r.low).Ranged _ _
    unfold lowAfter
    split
    · split
      · exact Watch.move_ranged hp hlow _
      · exact hlow
    · exact Watch.cleared_ranged hp
  · show (highAfter c gate mean r.high).Ranged _ _
    unfold highAfter
    split
    · split
      · exact Watch.move_ranged hp hhigh _
      · exact hhigh
    · exact Watch.cleared_ranged hp

theorem accumulateStep_inRange {c : RowConfig} {r : Runtime} (rows : List Row) (now : Time) (v : Value) (hc : c.valid)
    (h : Row.inRange { config := c, rt := r }) :
    Row.inRange { config := c, rt := (accumulateStep rows c now v r).rt } := by
  obtain ⟨hd, hs, hn, hw, hv⟩ := Row.inRange_iff.mp h
  have hsum : (accumulate v r).Summed := accumulate_summed v hs
  have hcount : (accumulate v r).count = r.count + 1 := rfl
  unfold accumulateStep
  dsimp only
  split
  · refine Row.inRange_iff.mpr ⟨RowConfig.valid_depth hc, ?_, hn, evaluate_watched _ _ hc hw, hv⟩
    simp [Runtime.Summed, evaluate, completeDigest]
  · rename_i hne
    refine Row.inRange_iff.mpr ⟨?_, hsum, hn, hw, hv⟩
    have hlt : r.count < c.depth := hd
    show (accumulate v r).count < c.depth
    omega

/-- An arrival's work keeps a record in its ranges (R31, Table 1-6). -/
theorem conditionRecord_inRange {c : RowConfig} {r : Runtime} (rows : List Row) (now : Time) (m : Sample)
    (hp : c.policy ≠ .block) (hc : c.valid) (h : Row.inRange { config := c, rt := r }) :
    Row.inRange { config := c, rt := (conditionRecord rows c now m r).rt } := by
  have hrecorded := recordSequence_inRange m h
  cases hv : m.valid with
  | false => rw [conditionRecord_invalid hv]; exact hrecorded
  | true =>
    have hsteps : conditionRecord rows c now m r = validSteps rows c now m.value (recordSequence m r) := if_pos hv
    rw [hsteps]
    exact accumulateStep_inRange rows now m.value hc
      (evaluateTrip_inRange m.value hc (restartStale_inRange now hp hrecorded))

end Sys2Proof.Machine
end

section
/-! SUPPORT. Each block's work as a chain of effects. -/

namespace Sys2Proof.Machine

open Sys2Proof

/-- Chains of effects. -/
abbrev Effects : State → State → Prop := Relation.ReflTransGen Effect

/-- Chains of effects, the engine's among them. -/
abbrev EngineEffects : State → State → Prop := Relation.ReflTransGen (fun s t => Effect s t ∨ EngineEffect s t)

theorem Effect.chain {s t : State} (h : Effect s t) : Effects s t := .single h

theorem Traffic.chain {s t : State} (h : Traffic s t) : Effects s t := .single (.traffic h)

theorem EngineEffect.chain {s t : State} (h : EngineEffect s t) : EngineEffects s t := .single (.inr h)

theorem Effects.engine {s t : State} (h : Effects s t) : EngineEffects s t :=
  Relation.ReflTransGen.mono (fun _ _ he => Or.inl he) _ _ h

/-! ### What a chain keeps while the part runs -/

theorem Traffic.phase {s t : State} (h : Traffic s t) : t.phase = s.phase := by
  cases h with
  | waiting | time | counted | armed | triggered | idled => rfl
  | receiver port => exact s.setReceiver_phase port _
  | forward f => exact s.offerForward_phase f
  | notice n => exact s.offerNotice_phase n
  | response dest r => exact s.placeResponse_phase dest r
  | northCompleted => exact State.phase_of_fixed s.completeNorth_fixed
  | command f => exact s.offerCommand_phase f
  | commandCompleted => exact State.phase_of_fixed s.completeCommand_fixed
  | acked addr kind episode => exact State.phase_of_fixed (ackEntry_fixed addr kind episode s)
  | overflowAcked => exact by unfold ackOverflow; split <;> simp
  | element addr e => exact s.takeElement_phase addr e
  | aborted => exact State.phase_of_fixed (State.abortCapture_fixed s)

theorem Effect.phase {s t : State} (h : Effect s t) : t.phase = s.phase := by
  cases h with
  | traffic h => exact h.phase
  | probeCompleted => exact State.phase_of_fixed s.completeProbe_fixed
  | created | restarted | owed => exact State.southJoined_phase _
  | committed => exact State.phase_of_fixed (State.applyItems_fixed s.staging s)
  | staged item => exact State.phase_of_fixed (stageItem_fixed item s)
  | failed | refused | held | settings | inserted | classReplaced | classInserted | classDeleted | released | unstaged
  | leased | opened | ended | replayed | resetRuntime | resetTables => rfl

theorem EngineEffect.phase {s t : State} (h : EngineEffect s t) : t.phase = s.phase := by
  cases h with
  | latched | recorded => rfl
  | raised => exact State.of_maskRaise_phase (State.raiseEntry_outside ..)
  | cleared => exact State.of_maskRaise_phase (State.takeClear_outside ..)

/-- What every effect keeps while the part runs, a chain of them keeps. -/
theorem Effects.keeps {P : State → Prop} (hP : ∀ s t, s.phase = .running → Effect s t → P s → P t) {s t : State}
    (hr : s.phase = .running) (h : Effects s t) (hs : P s) : P t := by
  suffices hrun : t.phase = .running ∧ P t from hrun.2
  induction h with
  | refl => exact ⟨hr, hs⟩
  | tail _ he ih => exact ⟨he.phase.trans ih.1, hP _ _ ih.1 he ih.2⟩

theorem EngineEffects.keeps {P : State → Prop} (hP : ∀ s t, s.phase = .running → Effect s t → P s → P t)
    (hE : ∀ s t, s.phase = .running → EngineEffect s t → P s → P t) {s t : State} (hr : s.phase = .running)
    (h : EngineEffects s t) (hs : P s) : P t := by
  suffices hrun : t.phase = .running ∧ P t from hrun.2
  induction h with
  | refl => exact ⟨hr, hs⟩
  | tail _ he ih =>
    obtain he | he := he
    · exact ⟨he.phase.trans ih.1, hP _ _ ih.1 he ih.2⟩
    · exact ⟨he.phase.trans ih.1, hE _ _ ih.1 he ih.2⟩

/-! ### Counters and renewals -/

theorem Effects.countPart (s : State) (c : PartCounters) : Effects s { s with partCounters := c } :=
  (Traffic.counted s s.northCounters s.southCounters c s.freeReads).chain

theorem Effects.freeReads (s : State) (n : Nat) : Effects s { s with freeReads := n } :=
  (Traffic.counted s s.northCounters s.southCounters s.partCounters n).chain

theorem Effects.countPort (s : State) (port : Port) (change : PortCounters → PortCounters) :
    Effects s (s.countPort port change) := by
  cases port
  · exact (Traffic.counted s (change s.northCounters) s.southCounters s.partCounters s.freeReads).chain
  · exact (Traffic.counted s s.northCounters (change s.southCounters) s.partCounters s.freeReads).chain

theorem State.renewLease_effects (source : NodeAddr) (s : State) : Effects s (s.renewLease source) := by
  unfold State.renewLease
  split
  · rename_i ses hses
    split
    · exact (Effect.leased s ses { ses with deadline := after s.now ses.lease } hses id).chain
    · exact .refl
  · exact .refl

theorem State.fillReplay_effects (source : NodeAddr) (r : Response) (s : State) : Effects s (s.fillReplay source r) := by
  unfold State.fillReplay
  split
  · rename_i howner
    obtain ⟨ses, hses, -⟩ := State.isOwner_iff.mp howner
    exact (Effect.replayed s r ses hses).chain
  · exact .refl

/-! ### The Enrolment Unit (chapter 6) -/

theorem State.unknownArrival_effects (addr : ChannelAddr) (s : State) (hrow : rowAt s.rows addr = none) :
    Effects s (s.unknownArrival addr) := by
  unfold State.unknownArrival
  split
  · rename_i h
    obtain ⟨hmode, hnew⟩ := h
    split
    · rename_i hroom
      exact (Effect.created s addr (by simp [hmode]) hrow (Option.isNone_iff_eq_none.mp hnew) hroom).chain
    · exact Effects.countPart s _
  · exact .refl

/-- A descriptor that passes the checks of R114. -/
theorem checkDescriptor_ok {d : Descriptor} {s : State} {c : ClassEntry} (h : checkDescriptor d s = .ok c) :
    d.rangeLow.toInt ≤ d.rangeHigh.toInt ∧ classAt s.classes d.classCode = some c ∧
      s.rows.length < Config.rowCapacity := by
  unfold checkDescriptor at h
  split at h
  · cases h
  rename_i hrange
  split at h
  · cases h
  rename_i x hx
  split at h
  · cases h
  rename_i hroom
  cases h
  exact ⟨not_lt.mp hrange, hx, not_le.mp hroom⟩

theorem State.takeDescriptor_effects (d : Descriptor) (s : State) {e : EnrolEntry} (he : enrolAt s.enrol d.addr = some e) :
    Effects s (s.takeDescriptor d) := by
  unfold State.takeDescriptor
  split
  · exact (Effect.refused s d.addr _).chain.trans (Traffic.notice _ _).chain
  · rename_i c hc
    obtain ⟨hrange, hclass, hroom⟩ := checkDescriptor_ok hc
    have hvalid (hok : ∀ x ∈ s.classes, templateOk x = true) : (buildRow d c).valid :=
      buildRow_valid hrange (hok c (List.mem_of_find?_eq_some hclass))
    exact (Effect.inserted s (buildRow d c) e he hroom hvalid).chain.trans (Traffic.notice _ _).chain

theorem State.descriptorArrived_effects (d : Descriptor) (s : State) : Effects s (s.descriptorArrived d) := by
  unfold State.descriptorArrived
  split
  · exact .refl
  rename_i e he
  split
  · exact s.takeDescriptor_effects d he
  · exact s.takeDescriptor_effects d he
  · exact .refl

theorem State.expireProbeWait_effects (addr : ChannelAddr) (s : State) : Effects s (s.expireProbeWait addr) := by
  unfold State.expireProbeWait
  split
  · exact .refl
  rename_i e he
  split
  · rename_i h
    obtain ⟨hprobing, hdue⟩ := h
    rw [← addr_of_enrolAt he] at he
    by_cases hretry : e.attempts ≤ s.settings.probeRetries
    · rw [State.probeWaitExpired_retried hretry]
      exact (Effect.owed s e he hprobing hretry).chain
    · rw [State.probeWaitExpired_failed (not_le.mp hretry)]
      have hsome : e.deadline.isSome = true := by
        unfold EnrolEntry.due at hdue
        cases hd : e.deadline with
        | none => rw [hd] at hdue; cases hdue
        | some d => rfl
      exact (Effect.failed s e _ he hprobing hsome).chain.trans (Traffic.notice _ _).chain
  · exact .refl

theorem State.expireHold_effects (addr : ChannelAddr) (s : State) : Effects s (s.expireHold addr) := by
  unfold State.expireHold
  split
  · exact .refl
  split
  · exact (Effect.held s addr).chain
  · exact .refl

/-! ### The session (chapter 7) -/

theorem State.expireLease_effects (s : State) : Effects s s.expireLease := by
  unfold State.expireLease
  split
  · exact .refl
  split
  · exact (Effect.ended s).chain.trans (Traffic.notice _ _).chain
  · exact .refl

/-! ### The engine (chapters 2 to 4) -/

theorem State.takeRaise_effects (addr : ChannelAddr) (kind : AlarmKind) (time : Time) (v : Value) (s : State) :
    EngineEffects s (s.takeRaise addr kind time v) := by
  refine (EngineEffect.raised s addr kind time v).chain.trans (Effects.engine ?_)
  show Effects _ (State.takeRaiseNotice addr time _)
  unfold State.takeRaiseNotice
  split
  · rename_i h
    exact (Traffic.triggered _ time h.1).chain
  · exact .refl

theorem State.takeAlarmEvents_effects (es : List AlarmEvent) (s : State) : EngineEffects s (s.takeAlarmEvents es) := by
  induction es generalizing s with
  | nil => exact .refl
  | cons e es ih =>
    refine .trans ?_ (ih (s.takeAlarmEvent e))
    cases e with
    | raise addr kind time v => exact s.takeRaise_effects addr kind time v
    | clear addr kind time => exact (EngineEffect.cleared s addr kind time).chain

theorem State.latchStep_effects (c : RowConfig) (w : Worked) (s : State) : EngineEffects s (s.latchStep c w) := by
  unfold State.latchStep
  split
  · exact (EngineEffect.latched s).chain
  · exact .refl

/-- A TRIP that an arrival makes active on a row with trip output has set the Trip Latch (R65, R68). -/
theorem State.latchStep_latched {row : Row} {m : Sample} {s : State} {rt : Runtime}
    (htrip : rt.trip = (conditionRecord s.rows row.config s.now m row.rt).rt.trip)
    (h : Row.holdsLatch { row with rt } = true) :
    row.holdsLatch = true ∨
      (s.latchStep row.config (conditionRecord s.rows row.config s.now m row.rt)).tripLatch = .set := by
  obtain ⟨hout, hactive⟩ : row.config.tripOutput = true ∧ rt.trip.active = true := by simpa [Row.holdsLatch] using h
  cases hb : row.rt.trip.active with
  | true => exact .inl (by simp [Row.holdsLatch, hout, hb])
  | false =>
    right
    rw [htrip] at hactive
    have hraised := (raise_issued_iff (rows := s.rows) (now := s.now) (m := m) (kind := .trip)).mpr ⟨hb, hactive⟩
    unfold State.latchStep
    rw [if_pos ⟨hout, List.any_eq_true.mpr ⟨_, hraised, rfl⟩⟩]

theorem afterOffer_trip (c : RowConfig) (joined : Bool) (r : Runtime) : (afterOffer c joined r).trip = r.trip := by
  unfold afterOffer
  split
  · split <;> rfl
  · rfl

theorem State.offerStep_effects {row : Row} {f : Frame} {m : Sample} {s : State}
    (hrow : rowAt s.rows row.config.addr = some row) (hp : row.config.policy ≠ .block) :
    let w := conditionRecord s.rows row.config s.now m row.rt
    EngineEffects (s.latchStep row.config w) (State.offerStep row.config f w (s.latchStep row.config w)) := by
  intro w
  have hfound : rowAt (s.latchStep row.config w).rows row.config.addr = some row := by simpa using hrow
  have hrange (hv : row.config.valid) (hr : row.inRange) : Row.inRange { config := row.config, rt := w.rt } :=
    conditionRecord_inRange s.rows s.now m hp hv hr
  unfold State.offerStep
  split
  · exact (EngineEffect.recorded _ row w.rt hfound hrange (State.latchStep_latched rfl)).chain
  · refine .trans (EngineEffect.recorded _ row (afterOffer row.config (s.latchStep row.config w).forwardRoom w.rt) hfound
      (fun hv hr => afterOffer_inRange _ (hrange hv hr)) (State.latchStep_latched (afterOffer_trip ..))).chain
      (Effects.engine (Traffic.forward _ _).chain)

theorem State.conditionSample_effects {row : Row} (f : Frame) {s : State}
    (hrow : rowAt s.rows row.config.addr = some row) (hp : row.config.policy ≠ .block) :
    EngineEffects s (s.conditionSample row f) :=
  (((s.latchStep_effects row.config _).trans (State.offerStep_effects hrow hp)).trans
    (Effects.engine (Traffic.element _ _ _).chain)).trans (State.takeAlarmEvents_effects _ _)

/-- A sample of an address without a row is no work of the engine's on a record (R22, R23). -/
theorem State.unknownSample_effects {f : Frame} {s : State} (hrow : rowAt s.rows (sampleOf f).addr = none) :
    Effects s (s.unknownSample f) := by
  cases hu : s.settings.unknown with
  | forward =>
    rw [State.unknownSample_forward hu]
    exact (Traffic.forward s f).chain.trans (State.unknownArrival_effects _ _ (by simpa using hrow))
  | drop =>
    rw [State.unknownSample_drop hu]
    exact State.unknownArrival_effects _ _ hrow

theorem State.sampleArrived_effects (f : Frame) (s : State) : EngineEffects s (s.sampleArrived f) := by
  cases hrow : rowAt s.rows (sampleOf f).addr with
  | none =>
    rw [State.sampleArrived_unknown hrow]
    exact (State.unknownSample_effects hrow).engine
  | some row =>
    have hfound : rowAt s.rows row.config.addr = some row := by rw [rowAt_addr hrow]; exact hrow
    by_cases hp : row.config.policy = .block
    · rw [State.sampleArrived_block hrow hp]
    · rw [State.sampleArrived_row hrow hp]
      split
      · exact (EngineEffect.recorded s row _ hfound (fun _ => duplicate_inRange) .inl).chain
      · exact State.conditionSample_effects f hfound hp

theorem State.expireStale_effects (addr : ChannelAddr) (s : State) : EngineEffects s (s.expireStale addr) := by
  unfold State.expireStale
  split
  · exact .refl
  rename_i row hrow
  split
  · have hfound : rowAt s.rows row.config.addr = some row := by rw [rowAt_addr hrow]; exact hrow
    rw [← rowAt_addr hrow]
    exact (EngineEffect.recorded s row _ hfound (fun _ => expired_inRange) .inl).chain.trans (State.takeRaise_effects ..)
  · exact .refl

end Sys2Proof.Machine
end

section
/-! SUPPORT. The work of a management request as a chain of effects, request by request, and the chain of every block's work
put together: a law kept by every effect and by the pins is kept by every step. -/

namespace Sys2Proof.Machine

open Sys2Proof

/-! ### The requests (R127) -/

theorem doReadCounters_effects (args : List Byte) (s : State) : Effects s (doReadCounters args s).1 := by
  unfold doReadCounters
  dsimp only
  split
  · exact .refl
  split
  · split
    · exact (Traffic.counted s PortCounters.initial s.southCounters s.partCounters s.freeReads).chain
    · exact .refl
  · split
    · exact (Traffic.counted s s.northCounters PortCounters.initial s.partCounters s.freeReads).chain
    · exact .refl
  · split
    · exact Effects.countPart s _
    · exact .refl
  · exact .refl

/-- The reads of the tables change nothing (R144). -/
theorem executeRequest_read {kind : RequestKind} (source : NodeAddr) (args : List Byte) (s : State)
    (h : kind = .listRows ∨ kind = .readRow ∨ kind = .readState ∨ kind = .readAlarms ∨ kind = .readClass ∨
      kind = .readCapture) : (executeRequest kind source args s).1 = s := by
  obtain rfl | rfl | rfl | rfl | rfl | rfl := h
  · rfl
  · show (doReadRow args s).1 = s; unfold doReadRow; split <;> rfl
  · show (doReadState args s).1 = s; unfold doReadState; split <;> rfl
  · rfl
  · show (doReadClass args s).1 = s; unfold doReadClass; split <;> rfl
  · show (doReadCapture args s).1 = s
    unfold doReadCapture
    dsimp only
    split
    · rfl
    split
    · rfl
    split <;> rfl

theorem doOpenSession_effects (source : NodeAddr) (args : List Byte) (s : State) :
    Effects s (doOpenSession source args s).1 := by
  unfold doOpenSession
  dsimp only
  split
  · exact .refl
  rename_i hrange
  have hlease : 100 ≤ (halfAt args 0).toNat ∧ (halfAt args 0).toNat ≤ 10000 := by omega
  split
  · exact (Effect.opened s ⟨source, (halfAt args 0).toNat, after s.now (halfAt args 0).toNat⟩ hlease).chain
  · rename_i ses hses
    split
    · exact (Effect.leased s ses ⟨ses.owner, (halfAt args 0).toNat, after s.now (halfAt args 0).toNat⟩ hses
        (fun _ => hlease)).chain
    · exact .refl

theorem doCloseSession_effects (source : NodeAddr) (s : State) : Effects s (doCloseSession source s).1 := by
  unfold doCloseSession
  split
  · exact .refl
  split
  · exact (Effect.ended s).chain
  · exact .refl

/-- A row image read has no policy code above 0x03 left, so that a policy byte above it alone is refused (R135). -/
theorem rowOfImage_valid {args : List Byte} (h : rowFault (rowOfImage args) (byteAt args 5) = none) :
    (rowOfImage args).valid := by
  cases hp : policyOf (byteAt args 5) with
  | some p =>
    have hpolicy : (rowOfImage args).policy = p := by simp [rowOfImage, hp]
    rw [RowConfig.valid, hpolicy, policyOf_some hp]
    exact h
  | none =>
    obtain ⟨-, -, -, -, -, hpolicy, -⟩ := rowFault_eq_none_iff.mp h
    simp [hp] at hpolicy

theorem doStageRow_effects (args : List Byte) {s : State} (ses : Session) (hs : s.session = some ses) :
    Effects s (doStageRow args s).1 := by
  unfold doStageRow
  split
  · exact .refl
  · rename_i hok
    exact (Effect.staged s (.row (rowOfImage args)) ses hs (by rintro c ⟨⟩; exact rowOfImage_valid hok)).chain

theorem doStageDelete_effects (args : List Byte) {s : State} (ses : Session) (hs : s.session = some ses) :
    Effects s (doStageDelete args s).1 :=
  (Effect.staged s (.delete (halfAt args 0)) ses hs (by rintro c ⟨⟩)).chain

theorem doCommit_effects (s : State) : Effects s (doCommit s).1 := by
  unfold doCommit
  split
  · exact .refl
  · rename_i hfits
    exact (Effect.committed s (not_lt.mp hfits)).chain

theorem classImageOk_template {args : List Byte} (h : classImageOk args = true) : templateOk (classOfImage args) = true := by
  simp only [classImageOk, Bool.and_eq_true] at h
  exact h.2

theorem doWriteClass_effects (args : List Byte) (s : State) : Effects s (doWriteClass args s).1 := by
  unfold doWriteClass
  dsimp only
  split
  · exact .refl
  rename_i hcode
  split
  · exact .refl
  rename_i hok
  have hc : (classOfImage args).code ≠ 0 ∧ templateOk (classOfImage args) = true :=
    ⟨hcode, classImageOk_template (Bool.eq_true_of_not_eq_false hok)⟩
  split
  · exact (Effect.classReplaced s (classOfImage args) hc).chain
  rename_i hnew
  split
  · rename_i hroom
    exact (Effect.classInserted s (classOfImage args) hc (Option.not_isSome_iff_eq_none.mp hnew) hroom).chain
  · exact .refl

theorem doDeleteClass_effects (args : List Byte) (s : State) : Effects s (doDeleteClass args s).1 := by
  unfold doDeleteClass
  dsimp only
  split
  · exact (Effect.classDeleted s _).chain
  · exact .refl

theorem settingsOf_inRange {args : List Byte} {c : Settings} (h : settingsOf args = some c) : c.inRange := by
  unfold settingsOf at h
  split at h
  · dsimp only at h
    split at h
    · cases h; assumption
    · cases h
  · cases h

theorem doSetPart_effects (args : List Byte) (s : State) : Effects s (doSetPart args s).1 := by
  unfold doSetPart
  split
  · exact .refl
  · rename_i c hc
    exact (Effect.settings s c (settingsOf_inRange hc)).chain

theorem doAckAlarm_effects (args : List Byte) (s : State) : Effects s (doAckAlarm args s).1 := by
  unfold doAckAlarm
  dsimp only
  split
  · split
    · exact .refl
    · exact (Traffic.overflowAcked s).chain
  · split
    · exact .refl
    split
    · exact .refl
    · exact (Traffic.acked s _ _ _).chain

theorem doTripRelease_effects (s : State) : Effects s (doTripRelease s).1 := by
  unfold doTripRelease
  split
  · exact .refl
  split
  · rename_i hnone
    exact (Effect.released s (fun r hr => by simpa using (List.filter_eq_nil_iff.mp hnone) r hr)).chain
  · exact .refl

theorem doEnrol_effects (args : List Byte) (s : State) : Effects s (doEnrol args s).1 := by
  unfold doEnrol
  dsimp only
  split
  · exact .refl
  rename_i hmode
  split
  · exact .refl
  rename_i hrow
  split
  · split
    · exact .refl
    · exact (Effect.restarted s _).chain
  · rename_i hnew
    split
    · rename_i hroom
      exact (Effect.created s _ hmode (Option.not_isSome_iff_eq_none.mp hrow) hnew hroom).chain
    · exact .refl

theorem doCaptureArm_effects (args : List Byte) (s : State) : Effects s (doCaptureArm args s).1 := by
  unfold doCaptureArm
  dsimp only
  split
  · exact .refl
  split
  · exact .refl
  rename_i hcounts
  split
  · exact .refl
  split
  · exact .refl
  · exact (Traffic.armed s _ _ _ _ (by omega) (by omega)).chain

theorem doCaptureTrigger_effects (s : State) : Effects s (doCaptureTrigger s).1 := by
  unfold doCaptureTrigger
  split
  · rename_i harmed
    exact (Traffic.triggered s s.now harmed).chain
  · exact .refl

theorem doCaptureAbort_effects (s : State) : Effects s (doCaptureAbort s).1 := by
  unfold doCaptureAbort
  dsimp only
  split
  · exact (Traffic.aborted s).chain
  · exact (Traffic.aborted s).chain
  · exact (Traffic.idled s).chain
  · exact .refl

theorem doCaptureRelease_effects (s : State) : Effects s (doCaptureRelease s).1 := by
  unfold doCaptureRelease
  split
  · exact (Traffic.idled s).chain
  · exact .refl

theorem doReset_effects (args : List Byte) (s : State) : Effects s (doReset args s).1 := by
  unfold doReset
  split
  · exact (Effect.resetRuntime s).chain
  · exact (Effect.resetTables s).chain
  · exact .refl

/-- The execution of a request, with the session its kind needs (R127, R133). -/
theorem executeRequest_effects (kind : RequestKind) (source : NodeAddr) (args : List Byte) (s : State)
    (hs : kind.needsSession = true → s.isOwner source = true) : Effects s (executeRequest kind source args s).1 := by
  cases kind
  case readPart | readEnrolment => exact Effects.freeReads s _
  case readCounters => exact doReadCounters_effects args s
  case listRows | readRow | readState | readAlarms | readClass | readCapture =>
    rw [executeRequest_read source args s (by simp)]
  case openSession => exact doOpenSession_effects source args s
  case closeSession => exact doCloseSession_effects source s
  case stageRow =>
    obtain ⟨ses, hses, -⟩ := State.isOwner_iff.mp (hs rfl)
    exact doStageRow_effects args ses hses
  case stageDelete =>
    obtain ⟨ses, hses, -⟩ := State.isOwner_iff.mp (hs rfl)
    exact doStageDelete_effects args ses hses
  case discard => exact (Effect.unstaged s).chain
  case commit => exact doCommit_effects s
  case writeClass => exact doWriteClass_effects args s
  case deleteClass => exact doDeleteClass_effects args s
  case setPart => exact doSetPart_effects args s
  case ackAlarm => exact doAckAlarm_effects args s
  case tripRelease => exact doTripRelease_effects s
  case enrol => exact doEnrol_effects args s
  case captureArm => exact doCaptureArm_effects args s
  case captureTrigger => exact doCaptureTrigger_effects s
  case captureAbort => exact doCaptureAbort_effects s
  case captureRelease => exact doCaptureRelease_effects s
  case reset => exact doReset_effects args s

theorem State.takeRequest_effects (h : ReqHeader) (code : Byte) (args : List Byte) (s : State) :
    Effects s (s.takeRequest h code args) :=
  keeps_takeRequest (P := Effects s)
    (fun t _ ht => ht.trans (Effects.countPart t _))
    (fun t source ht => ht.trans (t.renewLease_effects source))
    (fun t kind source args hses _ ht => ht.trans (executeRequest_effects kind source args t hses))
    (fun t source r ht => ht.trans (t.fillReplay_effects source r))
    (fun t dest r hroom ht => ht.trans (Traffic.response t dest r hroom).chain)
    executeRequest_responseQ .refl

/-! ### Every step -/

/-- A predicate kept by every effect while the part runs and by every pin, with the engine's two commands given apart. -/
theorem Kept.of_effects {P : State → Prop} (effect : ∀ s t, s.phase = .running → Effect s t → P s → P t)
    (sample : ∀ s f, s.phase = .running → P s → P (s.sampleArrived f))
    (stale : ∀ s addr, s.phase = .running → P s → P (s.expireStale addr))
    (pending : ∀ (s : State) l, P s → P { s with pending := l })
    (fresh : ∀ straps (s : State), P (s.afterPins straps)) (held : ∀ s : State, P s → P { s with phase := .powerOnHeld })
    (assertReset : ∀ s : State, P s → P s.assertReset)
    (preserved : ∀ straps (s : State), P s → P { s.afterPins straps with
      rows := freshRows s.rows 0, classes := s.classes, settings := s.settings }) : Kept P where
  pending := pending
  powerOn s straps low h := by
    unfold State.powerOn
    split
    · exact held _ (fresh _ _)
    · exact fresh _ _
  assertReset s _ h := assertReset s h
  releaseReset s preserve straps h := by
    unfold State.releaseReset
    split
    · exact h
    · exact fresh _ _
    · split
      · exact preserved _ _ h
      · exact fresh _ _
  time s hr h := effect _ _ hr (.traffic (.time s)) h
  setReceiver s port r hr h := effect _ _ hr (.traffic (.receiver s port r)) h
  countPort s port change hr h := (Effects.countPort s port change).keeps effect hr h
  sample := sample
  forward s f hr h := effect _ _ hr (.traffic (.forward s f)) h
  descriptor s d hr h := (s.descriptorArrived_effects d).keeps effect hr h
  command s f hr h := effect _ _ hr (.traffic (.command s f)) h
  request s h code args hr hs := (s.takeRequest_effects h code args).keeps effect hr hs
  completeNorth s hr h := effect _ _ hr (.traffic (.northCompleted s)) h
  completeCommand s hr h := effect _ _ hr (.traffic (.commandCompleted s)) h
  completeProbe s hr h := effect _ _ hr (.probeCompleted s) h
  stale := stale
  probeWait s addr hr h := (s.expireProbeWait_effects addr).keeps effect hr h
  hold s addr hr h := (s.expireHold_effects addr).keeps effect hr h
  lease s hr h := s.expireLease_effects.keeps effect hr h

/-- A predicate kept by every effect, the engine's among them, while the part runs, and by every pin. -/
theorem Kept.of_engine_effects {P : State → Prop} (effect : ∀ s t, s.phase = .running → Effect s t → P s → P t)
    (engine : ∀ s t, s.phase = .running → EngineEffect s t → P s → P t)
    (pending : ∀ (s : State) l, P s → P { s with pending := l })
    (fresh : ∀ straps (s : State), P (s.afterPins straps)) (held : ∀ s : State, P s → P { s with phase := .powerOnHeld })
    (assertReset : ∀ s : State, P s → P s.assertReset)
    (preserved : ∀ straps (s : State), P s → P { s.afterPins straps with
      rows := freshRows s.rows 0, classes := s.classes, settings := s.settings }) : Kept P :=
  .of_effects effect (fun s f hr => (s.sampleArrived_effects f).keeps effect engine hr)
    (fun s addr hr => (s.expireStale_effects addr).keeps effect engine hr) pending fresh held assertReset preserved

end Sys2Proof.Machine
end

section
/-! SUPPORT. The laws of the session, the capture, the queues and the South Arbiter under every effect (R128, R147, R158 to
R166). -/

namespace Sys2Proof.Machine

open Sys2Proof

/-! ### What traffic leaves alone -/

/-- The state with everything blanked but the tables, the lists, the session and the latch. -/
def State.store (s : State) : State :=
  { State.reset with
    rows := s.rows, classes := s.classes, settings := s.settings, tripLatch := s.tripLatch, enrol := s.enrol,
    session := s.session, staging := s.staging, replay := s.replay }

/-- A predicate that does not read what a mask blanks is kept by a change under the mask. -/
theorem State.keeps_of_mask {P : State → Prop} (mask : State → State) (hP : ∀ u, P (mask u) = P u) {s t : State}
    (h : mask t = mask s) (hs : P s) : P t := by
  rw [← hP, h, hP]
  exact hs

theorem ackEntry_outside (addr : ChannelAddr) (kind : AlarmKind) (episode : BitVec 16) (s : State) :
    (ackEntry addr kind episode s).1.maskNorth = s.maskNorth := by
  unfold ackEntry
  split
  · rfl
  split
  · rfl
  split
  · exact State.changeAlarm_outside ..
  · exact State.changeAlarm_outside ..
  · rfl
  · rfl

theorem ackOverflow_outside (s : State) : (ackOverflow s).1.maskNorth = s.maskNorth := by
  unfold ackOverflow
  split
  · exact State.placeReference_outside ..
  · rfl

theorem State.completeNorth_outside (s : State) : s.completeNorth.maskNorth = s.maskNorth := by
  unfold State.completeNorth
  split
  · exact State.pickNorth_outside { s with northTx := none }
  · rfl

theorem State.completeCommand_outside (s : State) : s.completeCommand.maskSouth = s.maskSouth := by
  unfold State.completeCommand
  split
  · exact State.pickSouth_outside { s with southTx := .idle }
  · rfl
  · rfl

/-- Of the probe's completion the Enrolment Unit's part is all that shows outside the South side (R111, R166). -/
theorem State.completeProbe_outside (s : State) :
    s.completeProbe.maskSouth = s.maskSouth ∨ ∃ addr, s.completeProbe.maskSouth = (s.probeCompleted addr).maskSouth := by
  unfold State.completeProbe
  split
  · exact .inr ⟨_, State.pickSouth_outside (State.probeCompleted _ { s with southTx := .idle })⟩
  · exact .inl rfl
  · exact .inl rfl

/-- Traffic changes neither the tables, the lists, the session nor the latch. -/
theorem Traffic.store {s t : State} (h : Traffic s t) : t.store = s.store := by
  cases h with
  | waiting | time | counted | armed | triggered | idled => rfl
  | receiver port => cases port <;> rfl
  | forward f => exact (congrArg State.store (State.offerForward_outside f s) :)
  | notice n => exact (congrArg State.store (State.offerNotice_outside n s) :)
  | response dest r => exact (congrArg State.store (State.placeResponse_outside dest r s) :)
  | northCompleted => exact (congrArg State.store s.completeNorth_outside :)
  | command f => exact (congrArg State.store (State.offerCommand_outside f s) :)
  | commandCompleted => exact (congrArg State.store s.completeCommand_outside :)
  | acked addr kind episode => exact (congrArg State.store (ackEntry_outside addr kind episode s) :)
  | overflowAcked => exact (congrArg State.store (ackOverflow_outside s) :)
  | element addr e => exact (congrArg State.store (State.takeElement_outside addr e s) :)
  | aborted => exact (congrArg State.store s.abortCapture_outside :)

/-- Traffic keeps a predicate of the tables, the lists, the session and the latch. -/
theorem Traffic.keeps {P : State → Prop} (hP : ∀ u : State, P u.store = P u) {s t : State} (h : Traffic s t) (hs : P s) : P t :=
  State.keeps_of_mask State.store hP h.store hs

theorem State.raiseEntry_store (addr : ChannelAddr) (kind : AlarmKind) (time : Time) (v : Value) (s : State) :
    (s.raiseEntry addr kind time v).store = s.store :=
  (congrArg State.store (State.raiseEntry_outside addr kind time v s) :)

theorem State.takeClear_store (addr : ChannelAddr) (kind : AlarmKind) (time : Time) (s : State) :
    (s.takeClear addr kind time).store = s.store :=
  (congrArg State.store (State.takeClear_outside addr kind time s) :)

/-! ### The items of a commit (R138) -/

/-- What an insert, a replacement and a deletion keep, a commit's items keep. -/
theorem keeps_items {P : State → Prop} {ok : RowConfig → Prop}
    (insert : ∀ s c, ok c → rowAt s.rows c.addr = none → P s → P (s.insertConfig c))
    (replace : ∀ s c, ok c → P s → P (s.replaceConfig c)) (delete : ∀ s addr, P s → P (s.deleteConfig addr))
    (items : List StagedItem) (hok : ∀ c, .row c ∈ items → ok c) {s : State} (hs : P s) :
    P (items.foldl State.applyItem s) := by
  induction items generalizing s with
  | nil => exact hs
  | cons item items ih =>
    refine ih (fun c hc => hok c (List.mem_cons_of_mem _ hc)) ?_
    cases item with
    | row c =>
      have hc : ok c := hok c (List.mem_cons_self ..)
      simp only [State.applyItem]
      split
      · exact replace s c hc hs
      · rename_i hnone
        exact insert s c hc (Option.not_isSome_iff_eq_none.mp hnone) hs
    | delete addr =>
      simp only [State.applyItem]
      split
      · exact delete s addr hs
      · exact hs

theorem State.replaceConfig_outside (c : RowConfig) (s : State) :
    (s.replaceConfig c).maskNorth =
      State.maskNorth { s with rows := changeRow s.rows c.addr (fun _ => freshRow c s.now) } :=
  State.retire_outside ..

theorem State.deleteConfig_outside (addr : ChannelAddr) (s : State) :
    (s.deleteConfig addr).maskCapture = State.maskCapture { s with rows := deleteRow s.rows addr } :=
  (State.captureRowDeleted_outside ..).trans (congrArg State.maskCapture (State.retire_outside addr _) :)

/-! ### The session (R128) -/

theorem SessionLaw_items (items : List StagedItem) {s : State} (h : s.SessionLaw) :
    (items.foldl State.applyItem s).SessionLaw :=
  keeps_items (ok := fun _ => True) (fun _ _ _ _ hs => hs)
    (fun s c _ hs => State.keeps_of_mask State.maskNorth (fun _ => rfl) (s.replaceConfig_outside c) hs)
    (fun s addr hs => State.keeps_of_mask State.maskCapture (fun _ => rfl) (s.deleteConfig_outside addr) hs) items (fun _ _ => trivial) h

theorem Effect.sessionLaw {s t : State} (h : Effect s t) (hs : s.SessionLaw) : t.SessionLaw := by
  obtain ⟨hempty, hlease⟩ := hs
  cases h with
  | traffic h => exact h.keeps (fun _ => rfl) ⟨hempty, hlease⟩
  | probeCompleted =>
    obtain h | ⟨addr, h⟩ := s.completeProbe_outside <;> exact State.keeps_of_mask State.maskSouth (fun _ => rfl) h ⟨hempty, hlease⟩
  | created | restarted | owed =>
    exact State.keeps_of_mask State.maskSouth (fun _ => rfl) (State.southJoined_outside _) ⟨hempty, hlease⟩
  | failed | refused | held | settings | inserted | classReplaced | classInserted | classDeleted | released =>
    exact ⟨hempty, hlease⟩
  | committed =>
    obtain ⟨hempty, hlease⟩ := SessionLaw_items s.staging ⟨hempty, hlease⟩
    exact ⟨fun hnone => ⟨rfl, (hempty hnone).2⟩, hlease⟩
  | staged item ses hses hvalid =>
    have hkept : (stageItem item s).1.session = s.session := by unfold stageItem; dsimp only; split <;> [rfl; split <;> rfl]
    exact ⟨fun hnone => absurd (hkept.symm.trans hnone) (by simp [hses]), fun u hu => hlease u (hkept.symm.trans hu)⟩
  | unstaged => exact ⟨fun hnone => ⟨rfl, (hempty hnone).2⟩, hlease⟩
  | leased ses later hses hrange => exact ⟨by rintro ⟨⟩, by rintro u ⟨⟩; exact hrange (hlease ses hses)⟩
  | opened ses hrange => exact ⟨by rintro ⟨⟩, by rintro u ⟨⟩; exact hrange⟩
  | replayed r ses hses => exact ⟨fun hnone => absurd hnone (by simp [hses]), hlease⟩
  | ended | resetRuntime | resetTables => exact ⟨fun _ => ⟨rfl, rfl⟩, by rintro u ⟨⟩⟩

theorem EngineEffect.sessionLaw {s t : State} (h : EngineEffect s t) (hs : s.SessionLaw) : t.SessionLaw := by
  cases h with
  | latched | recorded => exact hs
  | raised => exact State.keeps_of_mask State.store (fun _ => rfl) (State.raiseEntry_store ..) hs
  | cleared => exact State.keeps_of_mask State.store (fun _ => rfl) (State.takeClear_store ..) hs

theorem State.reset_sessionLaw : State.reset.SessionLaw := ⟨fun _ => ⟨rfl, rfl⟩, by rintro u ⟨⟩⟩

end Sys2Proof.Machine
end

section
/-! SUPPORT. The law of the capture record under every effect (R147, R149, R150). -/

namespace Sys2Proof.Machine

open Sys2Proof

/-- The law of the capture record, of the record alone (R147). -/
def Capture.Lawful (c : Capture) : Prop := State.CaptureLaw { State.reset with capture := c }

theorem State.captureLaw_iff {s : State} : s.CaptureLaw ↔ s.capture.Lawful := Iff.rfl

theorem Capture.initial_lawful : Capture.initial.Lawful := by
  refine ⟨le_rfl, ?_, rfl, rfl, rfl, rfl⟩
  show 0 + 1 ≤ 512
  omega

section Record

variable {c : Capture}

theorem Capture.Lawful.toIdle (h : c.Lawful) : c.toIdle.Lawful := by
  obtain ⟨hpost, hfits, -⟩ := h
  exact ⟨hpost, hfits, rfl, rfl, rfl, rfl⟩

theorem Capture.lawful_armed (h : c.state = .armed) :
    c.Lawful ↔ 1 ≤ c.postCount ∧ c.preCount + c.postCount ≤ Config.captureCapacity ∧ c.channel.isSome = true ∧
      c.triggerIndex = none ∧ c.triggerTime = none ∧ c.buffer.length ≤ c.preCount := by
  unfold Capture.Lawful State.CaptureLaw
  simp only [h]

theorem Capture.lawful_triggered (h : c.state = .triggered) :
    c.Lawful ↔ 1 ≤ c.postCount ∧ c.preCount + c.postCount ≤ Config.captureCapacity ∧ c.channel.isSome = true ∧
      c.triggerTime.isSome = true ∧ ∃ i, c.triggerIndex = some i ∧ i ≤ c.preCount ∧ i ≤ c.buffer.length ∧
        c.buffer.length < i + c.postCount := by
  unfold Capture.Lawful State.CaptureLaw
  simp only [h]

/-- A trigger finds no more elements than the pre count and leaves all of the post count to come (R150). -/
theorem Capture.Lawful.triggered (h : c.Lawful) (hs : c.state = .armed) (time : Time) : (c.triggered time).Lawful := by
  obtain ⟨hpost, hfits, hchannel, -, -, hheld⟩ := (Capture.lawful_armed hs).mp h
  exact (Capture.lawful_triggered rfl).mpr
    ⟨hpost, hfits, hchannel, rfl, c.buffer.length, rfl, hheld, le_rfl, Nat.lt_add_of_pos_right hpost⟩

/-- The ring holds at most the pre count (R149). -/
theorem Capture.Lawful.ring (h : c.Lawful) (hs : c.state = .armed) (e : Element) : (c.ring e).Lawful := by
  obtain ⟨hpost, hfits, hchannel, hindex, htime, hheld⟩ := (Capture.lawful_armed hs).mp h
  by_cases hpre : c.preCount = 0
  · rw [Capture.ring_of_preCount_zero hpre]
    exact h
  obtain hroom | hfull := lt_or_eq_of_le hheld
  · rw [Capture.ring_room (Nat.pos_of_ne_zero hpre) hroom]
    refine (Capture.lawful_armed (c := { c with buffer := c.buffer ++ [e] }) hs).mpr ⟨hpost, hfits, hchannel, hindex, htime, ?_⟩
    simpa using hroom
  · rw [Capture.ring_full (Nat.pos_of_ne_zero hpre) hfull]
    refine (Capture.lawful_armed (c := { c with buffer := c.buffer.tail ++ [e] }) hs).mpr ⟨hpost, hfits, hchannel, hindex, htime, ?_⟩
    simp only [List.length_append, List.length_tail, List.length_singleton]
    omega

/-- An element of the fill leaves room for more or fills the record (R149). -/
theorem Capture.Lawful.append (h : c.Lawful) (hs : c.state = .triggered) (e : Element) : (c.append e).Lawful := by
  obtain ⟨hpost, hfits, hchannel, htime, i, hi, hipre, hiheld, hheld⟩ := (Capture.lawful_triggered hs).mp h
  have hfill : c.fillCount = i + c.postCount := Capture.fillCount_of_index hi
  by_cases hlast : c.buffer.length + 1 = c.fillCount
  · rw [Capture.append_filled hlast]
    refine ⟨hpost, hfits, hchannel, htime, i, hi, hipre, ?_⟩
    simpa [hfill] using hlast
  · rw [Capture.append_unfilled hs hlast]
    refine (Capture.lawful_triggered (c := { c with buffer := c.buffer ++ [e] }) hs).mpr ⟨hpost, hfits, hchannel, htime, i, hi, hipre, ?_, ?_⟩ <;>
      simp only [List.length_append, List.length_singleton] <;> omega

end Record

theorem State.takeElement_captureLaw {s : State} (h : s.CaptureLaw) (addr : ChannelAddr) (e : Element) :
    (s.takeElement addr e).CaptureLaw := by
  by_cases hc : s.capture.channel = some addr
  swap
  · rw [State.takeElement_ignored (.inl hc)]
    exact h
  cases hs : s.capture.state with
  | idle => rw [State.takeElement_ignored (.inr (.inl hs))]; exact h
  | full => rw [State.takeElement_ignored (.inr (.inr hs))]; exact h
  | armed => rw [State.takeElement_armed hc hs]; exact Capture.Lawful.ring h hs e
  | triggered =>
    have happended : (s.capture.append e).Lawful := Capture.Lawful.append h hs e
    rw [State.takeElement_triggered hc hs]
    split
    · rw [State.captureLaw_iff, State.offerNotice_capture]
      exact happended
    · exact happended

theorem State.abortCapture_captureLaw {s : State} (h : s.CaptureLaw) : s.abortCapture.CaptureLaw := by
  rw [State.captureLaw_iff, State.abortCapture, State.offerNotice_capture]
  exact Capture.Lawful.toIdle h

theorem Traffic.captureLaw {s t : State} (h : Traffic s t) (hs : s.CaptureLaw) : t.CaptureLaw := by
  cases h with
  | waiting | time | counted => exact hs
  | receiver port => cases port <;> exact hs
  | forward f => exact State.keeps_of_mask State.maskOffer (fun _ => rfl) (State.offerForward_outside f s) hs
  | notice n => exact State.keeps_of_mask State.maskOffer (fun _ => rfl) (State.offerNotice_outside n s) hs
  | response dest r => exact State.keeps_of_mask State.maskNorth (fun _ => rfl) (State.placeResponse_outside dest r s) hs
  | northCompleted => exact State.keeps_of_mask State.maskNorth (fun _ => rfl) s.completeNorth_outside hs
  | command f => exact State.keeps_of_mask State.maskSouth (fun _ => rfl) (State.offerCommand_outside f s) hs
  | commandCompleted => exact State.keeps_of_mask State.maskSouth (fun _ => rfl) s.completeCommand_outside hs
  | acked addr kind episode =>
    exact State.keeps_of_mask State.maskNorth (fun _ => rfl) (ackEntry_outside addr kind episode s) hs
  | overflowAcked => exact State.keeps_of_mask State.maskNorth (fun _ => rfl) (ackOverflow_outside s) hs
  | armed addr pre post mode hsome hfits => exact ⟨hsome, hfits, rfl, rfl, rfl, Nat.zero_le _⟩
  | triggered time harmed => exact Capture.Lawful.triggered hs harmed time
  | element addr e => exact State.takeElement_captureLaw hs addr e
  | aborted => exact State.abortCapture_captureLaw hs
  | idled => exact Capture.Lawful.toIdle hs

theorem CaptureLaw_items (items : List StagedItem) {s : State} (h : s.CaptureLaw) :
    (items.foldl State.applyItem s).CaptureLaw := by
  refine keeps_items (ok := fun _ => True) (fun _ _ _ _ hs => hs) (fun s c _ hs => ?replace) (fun s addr hs => ?delete)
    items (fun _ _ => trivial) h
  case replace => exact State.keeps_of_mask State.maskNorth (fun _ => rfl) (s.replaceConfig_outside c) hs
  case delete =>
    have hretired : (State.retire addr { s with rows := deleteRow s.rows addr }).CaptureLaw :=
      State.keeps_of_mask State.maskNorth (fun _ => rfl) (State.retire_outside ..) hs
    unfold State.deleteConfig State.captureRowDeleted
    split
    · exact State.abortCapture_captureLaw hretired
    · exact hretired

theorem Effect.captureLaw {s t : State} (h : Effect s t) (hs : s.CaptureLaw) : t.CaptureLaw := by
  cases h with
  | traffic h => exact h.captureLaw hs
  | probeCompleted =>
    obtain h | ⟨addr, h⟩ := s.completeProbe_outside <;> exact State.keeps_of_mask State.maskSouth (fun _ => rfl) h hs
  | created | restarted | owed => exact State.keeps_of_mask State.maskSouth (fun _ => rfl) (State.southJoined_outside _) hs
  | failed | refused | held | settings | inserted | classReplaced | classInserted | classDeleted | released | unstaged
  | leased | opened | ended | replayed => exact hs
  | committed => exact CaptureLaw_items s.staging hs
  | staged item =>
    have hkept : (stageItem item s).1.capture = s.capture := by unfold stageItem; dsimp only; split <;> [rfl; split <;> rfl]
    rw [State.captureLaw_iff, hkept]
    exact hs
  | resetRuntime | resetTables => exact Capture.initial_lawful

theorem EngineEffect.captureLaw {s t : State} (h : EngineEffect s t) (hs : s.CaptureLaw) : t.CaptureLaw := by
  have hplaced (r : Reference) (u : State) (hu : u.CaptureLaw) : (u.placeReference r).CaptureLaw :=
    State.keeps_of_mask State.maskNorth (fun _ => rfl) (State.placeReference_outside r u) hu
  cases h with
  | latched | recorded => exact hs
  | raised addr kind time v =>
    unfold State.raiseEntry
    split
    · split <;> exact hplaced _ _ hs
    · split
      · exact hplaced _ _ hs
      · exact hplaced _ _ hs
      · exact hs
      · exact hs
  | cleared addr kind time =>
    unfold State.takeClear
    split
    · exact hs
    · split
      · exact hplaced _ _ hs
      · exact hplaced _ _ hs
      · exact hs
      · exact hs

end Sys2Proof.Machine
end

section
/-! SUPPORT. The laws of the queues and of the South Arbiter under every effect (R158 to R166). -/

namespace Sys2Proof.Machine

open Sys2Proof

/-! ### The queues' capacities and the guard count (R158 to R165) -/

theorem State.takeReport_queues (r : Reference) (s : State) :
    (s.takeReport r).forwardQ = s.forwardQ ∧ (s.takeReport r).noticeQ = s.noticeQ ∧
      (s.takeReport r).responseQ = s.responseQ ∧ (s.takeReport r).commandQ = s.commandQ ∧
      (s.takeReport r).guardCount = s.guardCount ∧ (s.takeReport r).lostNotices = s.lostNotices := by
  cases r with
  | overflow => exact ⟨rfl, rfl, rfl, rfl, rfl, rfl⟩
  | entry addr kind =>
    simp only [State.takeReport, State.takeEntryReport]
    split <;> exact ⟨rfl, rfl, rfl, rfl, rfl, rfl⟩

theorem State.takeReport_queueLaw {r : Reference} {s : State} (h : s.QueueLaw) : (s.takeReport r).QueueLaw := by
  obtain ⟨hforward, hnotice, hresponse, hcommand, hguard, hlost⟩ := s.takeReport_queues r
  unfold State.QueueLaw
  rw [hforward, hnotice, hresponse, hcommand, hguard, hlost]
  exact h

/-- Below its limit, or with an empty Forward Queue, the guard count stays within it (R163). -/
theorem State.guardAfter_le {s : State} (h : s.QueueLaw) (hn : s.guardCount ≠ Config.guardLimit ∨ s.forwardQ = []) :
    s.guardAfter ≤ Config.guardLimit ∧ (s.forwardQ = [] → s.guardAfter = 0) := by
  obtain ⟨-, -, -, -, hguard, hempty, -⟩ := h
  unfold State.guardAfter
  cases hf : s.forwardQ with
  | nil => simp [hempty hf]
  | cons f rest =>
    have hne : s.guardCount ≠ Config.guardLimit := hn.resolve_right (by simp [hf])
    simp only [List.isEmpty_cons, Bool.false_eq_true, if_false, reduceCtorEq, false_implies, and_true]
    omega

theorem State.pickNorth_queueLaw {s : State} (h : s.QueueLaw) : s.pickNorth.QueueLaw := by
  obtain ⟨hforward, hnotice, hresponse, hcommand, hguard, hempty, hlost⟩ := id h
  obtain ⟨-, -, -, -, hpick⟩ | ⟨f, rest, hq, hpick⟩ | ⟨f, rest, hn, hq, hpick⟩ | ⟨r, rest, hn, -, hq, hpick⟩ |
    ⟨n, rest, hn, -, -, hq, hpick⟩ := s.pickNorth_cases <;> rw [hpick]
  · exact h
  · refine ⟨?_, hnotice, hresponse, hcommand, Nat.zero_le _, fun _ => rfl, hlost⟩
    rw [hq] at hforward
    exact (Nat.le_succ _).trans hforward
  · obtain ⟨hle, hzero⟩ := State.guardAfter_le h hn
    rw [hq] at hresponse
    exact ⟨hforward, hnotice, (Nat.le_succ _).trans hresponse, hcommand, hle, hzero, hlost⟩
  · obtain ⟨hle, hzero⟩ := State.guardAfter_le h hn
    exact State.takeReport_queueLaw ⟨hforward, hnotice, hresponse, hcommand, hle, hzero, hlost⟩
  · obtain ⟨hle, hzero⟩ := State.guardAfter_le h hn
    rw [hq] at hnotice
    exact ⟨hforward, (Nat.le_succ _).trans hnotice, hresponse, hcommand, hle, hzero, Nat.zero_le _⟩

theorem State.northJoined_queueLaw {s : State} (h : s.QueueLaw) : s.northJoined.QueueLaw := by
  unfold State.northJoined
  split
  · exact State.pickNorth_queueLaw h
  · exact h

theorem State.placeReference_queueLaw {r : Reference} {s : State} (h : s.QueueLaw) : (s.placeReference r).QueueLaw := by
  unfold State.placeReference
  split
  · exact h
  · exact State.northJoined_queueLaw h

theorem State.changeAlarm_queueLaw {addr : ChannelAddr} {kind : AlarmKind} {change : AlarmEntry → AlarmEntry} {s : State}
    (h : s.QueueLaw) : (s.changeAlarm addr kind change).QueueLaw := State.placeReference_queueLaw h

theorem State.offerForward_queueLaw {s : State} (f : Frame) (h : s.QueueLaw) : (s.offerForward f).QueueLaw := by
  obtain ⟨hforward, hrest⟩ := id h
  obtain ⟨hnotice, hresponse, hcommand, hguard, -, hlost⟩ := hrest
  obtain hroom | hfull := lt_or_ge s.forwardQ.length Config.forwardCapacity
  · rw [State.offerForward_room f hroom]
    refine State.northJoined_queueLaw ⟨?_, hnotice, hresponse, hcommand, hguard, fun hc => ?_, hlost⟩
    · simpa using hroom
    · simp at hc
  · rw [State.offerForward_full f hfull]
    exact h

theorem State.offerNotice_queueLaw {s : State} (n : Notice) (h : s.QueueLaw) : (s.offerNotice n).QueueLaw := by
  obtain ⟨hforward, hnotice, hresponse, hcommand, hguard, hempty, hlost⟩ := h
  obtain hroom | hfull := lt_or_ge s.noticeQ.length Config.noticeCapacity
  · rw [State.offerNotice_room n hroom]
    refine State.northJoined_queueLaw ⟨hforward, ?_, hresponse, hcommand, hguard, hempty, hlost⟩
    simpa using hroom
  · rw [State.offerNotice_full n hfull]
    exact ⟨hforward, hnotice, hresponse, hcommand, hguard, hempty, min_le_left _ _⟩

theorem State.placeResponse_queueLaw {s : State} (dest : NodeAddr) (r : Response) (h : s.QueueLaw)
    (hroom : s.responseQ.length < Config.responseCapacity) : (s.placeResponse dest r).QueueLaw := by
  obtain ⟨hforward, hnotice, -, hcommand, hguard, hempty, hlost⟩ := h
  refine State.northJoined_queueLaw ⟨hforward, hnotice, ?_, hcommand, hguard, hempty, hlost⟩
  simpa using hroom

theorem State.pickSouth_queueLaw {s : State} (h : s.QueueLaw) : s.pickSouth.QueueLaw := by
  obtain ⟨hforward, hnotice, hresponse, hcommand, hrest⟩ := id h
  obtain ⟨f, rest, hq, hpick⟩ | ⟨e, -, -, hpick⟩ | ⟨-, -, hpick⟩ := s.pickSouth_cases <;> rw [hpick]
  · rw [hq] at hcommand
    exact ⟨hforward, hnotice, hresponse, (Nat.le_succ _).trans hcommand, hrest⟩
  · exact h
  · exact h

theorem State.southJoined_queueLaw {s : State} (h : s.QueueLaw) : s.southJoined.QueueLaw := by
  unfold State.southJoined
  split
  · exact State.pickSouth_queueLaw h
  · exact h

theorem State.offerCommand_queueLaw {s : State} (f : Frame) (h : s.QueueLaw) : (s.offerCommand f).QueueLaw := by
  obtain ⟨hforward, hnotice, hresponse, hcommand, hrest⟩ := h
  unfold State.offerCommand
  split
  · rename_i hroom
    refine State.southJoined_queueLaw ⟨hforward, hnotice, hresponse, ?_, hrest⟩
    simpa using hroom
  · exact ⟨hforward, hnotice, hresponse, hcommand, hrest⟩

theorem State.completeNorth_queueLaw {s : State} (h : s.QueueLaw) : s.completeNorth.QueueLaw := by
  unfold State.completeNorth
  split
  · exact State.pickNorth_queueLaw h
  · exact h

theorem State.takeElement_queueLaw {s : State} (addr : ChannelAddr) (e : Element) (h : s.QueueLaw) :
    (s.takeElement addr e).QueueLaw := by
  unfold State.takeElement
  split
  · split
    · exact h
    · exact h
    · exact h
    · dsimp only
      split
      · exact State.offerNotice_queueLaw _ h
      · exact h
  · exact h

theorem ackEntry_queueLaw {s : State} (addr : ChannelAddr) (kind : AlarmKind) (episode : BitVec 16) (h : s.QueueLaw) :
    (ackEntry addr kind episode s).1.QueueLaw := by
  unfold ackEntry
  split
  · exact h
  split
  · exact h
  split
  · exact State.changeAlarm_queueLaw h
  · exact State.changeAlarm_queueLaw h
  · exact h
  · exact h

theorem ackOverflow_queueLaw {s : State} (h : s.QueueLaw) : (ackOverflow s).1.QueueLaw := by
  unfold ackOverflow
  split
  · exact State.placeReference_queueLaw h
  · exact h

theorem Traffic.queueLaw {s t : State} (h : Traffic s t) (hs : s.QueueLaw) : t.QueueLaw := by
  cases h with
  | waiting | time | counted | armed | triggered | idled => exact hs
  | receiver port => cases port <;> exact hs
  | forward f => exact State.offerForward_queueLaw f hs
  | notice n => exact State.offerNotice_queueLaw n hs
  | response dest r hroom => exact State.placeResponse_queueLaw dest r hs hroom
  | northCompleted => exact State.completeNorth_queueLaw hs
  | command f => exact State.offerCommand_queueLaw f hs
  | commandCompleted =>
    unfold State.completeCommand
    split
    · exact State.pickSouth_queueLaw hs
    · exact hs
    · exact hs
  | acked addr kind episode => exact ackEntry_queueLaw addr kind episode hs
  | overflowAcked => exact ackOverflow_queueLaw hs
  | element addr e => exact State.takeElement_queueLaw addr e hs
  | aborted => exact State.offerNotice_queueLaw _ hs

theorem State.retire_queueLaw {s : State} (addr : ChannelAddr) (h : s.QueueLaw) : (s.retire addr).QueueLaw := by
  unfold State.retire
  generalize kindsOf s.alarms addr = kinds
  induction kinds generalizing s with
  | nil => exact h
  | cons kind kinds ih => exact ih (State.changeAlarm_queueLaw h)

theorem QueueLaw_items (items : List StagedItem) {s : State} (h : s.QueueLaw) :
    (items.foldl State.applyItem s).QueueLaw := by
  refine keeps_items (ok := fun _ => True) (fun _ _ _ _ hs => hs) (fun s c _ hs => State.retire_queueLaw _ hs)
    (fun s addr hs => ?delete) items (fun _ _ => trivial) h
  have hretired : (State.retire addr { s with rows := deleteRow s.rows addr }).QueueLaw := State.retire_queueLaw _ hs
  unfold State.deleteConfig State.captureRowDeleted
  split
  · exact State.offerNotice_queueLaw _ hretired
  · exact hretired

theorem State.queuesEmpty_queueLaw {s : State} (hf : s.forwardQ = []) (hn : s.noticeQ = []) (hr : s.responseQ = [])
    (hc : s.commandQ = []) (hg : s.guardCount = 0) (hl : s.lostNotices = 0) : s.QueueLaw := by
  simp [State.QueueLaw, hf, hn, hr, hc, hg, hl]

theorem Effect.queueLaw {s t : State} (h : Effect s t) (hs : s.QueueLaw) : t.QueueLaw := by
  cases h with
  | traffic h => exact h.queueLaw hs
  | probeCompleted =>
    unfold State.completeProbe
    split
    · exact State.pickSouth_queueLaw hs
    · exact hs
    · exact hs
  | created | restarted | owed => exact State.southJoined_queueLaw hs
  | failed | refused | held | settings | inserted | classReplaced | classInserted | classDeleted | released | unstaged
  | leased | opened | ended | replayed => exact hs
  | committed => exact QueueLaw_items s.staging hs
  | staged item => unfold stageItem; dsimp only; split <;> [exact hs; split <;> exact hs]
  | resetRuntime | resetTables => exact State.queuesEmpty_queueLaw rfl rfl rfl rfl rfl rfl

theorem EngineEffect.queueLaw {s t : State} (h : EngineEffect s t) (hs : s.QueueLaw) : t.QueueLaw := by
  cases h with
  | latched | recorded => exact hs
  | raised addr kind time v =>
    unfold State.raiseEntry
    split
    · split <;> exact State.placeReference_queueLaw hs
    · split
      · exact State.placeReference_queueLaw hs
      · exact State.placeReference_queueLaw hs
      · exact hs
      · exact hs
  | cleared addr kind time =>
    unfold State.takeClear
    split
    · exact hs
    · split
      · exact State.placeReference_queueLaw hs
      · exact State.placeReference_queueLaw hs
      · exact hs
      · exact hs

/-! ### The South Arbiter (R166) -/

/-- After a pick an idle South transmitter means that nothing waits, whatever was before (R166). -/
theorem State.pickSouth_southLaw (s : State) : s.pickSouth.SouthLaw := by
  intro _ hidle
  obtain ⟨f, rest, -, hpick⟩ | ⟨e, -, -, hpick⟩ | ⟨hq, hnone, hpick⟩ := s.pickSouth_cases <;> rw [hpick] at hidle ⊢
  · cases hidle
  · cases hidle
  · exact ⟨hq, hnone⟩

theorem State.southJoined_southLaw (s : State) : s.southJoined.SouthLaw := by
  unfold State.southJoined
  split
  · exact s.pickSouth_southLaw
  · rename_i hbusy
    exact fun _ hidle => absurd hidle hbusy

/-- A change that adds no owed probe keeps the law of the South Arbiter. -/
theorem State.SouthLaw.of_fewer {s : State} (h : s.SouthLaw) {enrol : List EnrolEntry}
    (hfewer : ∀ e ∈ enrol, e.probeOwed = true → ∃ x ∈ s.enrol, x.probeOwed = true) :
    State.SouthLaw { s with enrol } := by
  intro hrun hidle
  obtain ⟨hq, hnone⟩ := h hrun hidle
  refine ⟨hq, fun e he => Bool.eq_false_iff.mpr fun howed => ?_⟩
  obtain ⟨x, hx, hxowed⟩ := hfewer e he howed
  exact Bool.false_ne_true ((hnone x hx).symm.trans hxowed)

/-- Changes of entries that owe no probe of their own accord. -/
theorem changeEnrol_owed {enrol : List EnrolEntry} {addr : ChannelAddr} {change : EnrolEntry → EnrolEntry}
    (hchange : ∀ x, (change x).probeOwed = true → x.probeOwed = true) {e : EnrolEntry} (he : e ∈ changeEnrol enrol addr change)
    (howed : e.probeOwed = true) : ∃ x ∈ enrol, x.probeOwed = true := by
  obtain ⟨x, hx, rfl⟩ := List.mem_map.mp he
  refine ⟨x, hx, ?_⟩
  split at howed
  · exact hchange x howed
  · exact howed

theorem State.offerCommand_southLaw {s : State} (f : Frame) (h : s.SouthLaw) : (s.offerCommand f).SouthLaw := by
  unfold State.offerCommand
  split
  · exact State.southJoined_southLaw _
  · exact h

theorem Traffic.southLaw {s t : State} (h : Traffic s t) (hs : s.SouthLaw) : t.SouthLaw := by
  cases h with
  | waiting | time | counted | armed | triggered | idled => exact hs
  | receiver port => cases port <;> exact hs
  | forward f => exact State.keeps_of_mask State.maskOffer (fun _ => rfl) (State.offerForward_outside f s) hs
  | notice n => exact State.keeps_of_mask State.maskOffer (fun _ => rfl) (State.offerNotice_outside n s) hs
  | response dest r => exact State.keeps_of_mask State.maskNorth (fun _ => rfl) (State.placeResponse_outside dest r s) hs
  | northCompleted => exact State.keeps_of_mask State.maskNorth (fun _ => rfl) s.completeNorth_outside hs
  | command f => exact State.offerCommand_southLaw f hs
  | commandCompleted =>
    unfold State.completeCommand
    split
    · exact State.pickSouth_southLaw _
    · exact hs
    · exact hs
  | acked addr kind episode =>
    exact State.keeps_of_mask State.maskNorth (fun _ => rfl) (ackEntry_outside addr kind episode s) hs
  | overflowAcked => exact State.keeps_of_mask State.maskNorth (fun _ => rfl) (ackOverflow_outside s) hs
  | element addr e => exact State.keeps_of_mask State.maskCapture (fun _ => rfl) (State.takeElement_outside addr e s) hs
  | aborted => exact State.keeps_of_mask State.maskCapture (fun _ => rfl) s.abortCapture_outside hs

theorem SouthLaw_items (items : List StagedItem) {s : State} (h : s.SouthLaw) :
    (items.foldl State.applyItem s).SouthLaw :=
  keeps_items (ok := fun _ => True)
    (fun _ _ _ _ hs => hs.of_fewer (fun e he howed => ⟨e, (List.mem_filter.mp he).1, howed⟩))
    (fun s c _ hs => State.keeps_of_mask State.maskNorth (fun _ => rfl) (s.replaceConfig_outside c) hs)
    (fun s addr hs => State.keeps_of_mask State.maskCapture (fun _ => rfl) (s.deleteConfig_outside addr) hs)
    items (fun _ _ => trivial) h

theorem Effect.southLaw {s t : State} (h : Effect s t) (hs : s.SouthLaw) : t.SouthLaw := by
  cases h with
  | traffic h => exact h.southLaw hs
  | probeCompleted =>
    unfold State.completeProbe
    split
    · exact State.pickSouth_southLaw _
    · exact hs
    · exact hs
  | created | restarted | owed => exact State.southJoined_southLaw _
  | failed e time =>
    exact hs.of_fewer fun _ =>
      changeEnrol_owed (change := fun x => { x with state := .failed, deadline := some time }) fun _ howed => howed
  | refused => exact hs.of_fewer fun _ => changeEnrol_owed (by rintro x ⟨⟩)
  | held | inserted => exact hs.of_fewer fun e he howed => ⟨e, (List.mem_filter.mp he).1, howed⟩
  | settings c =>
    refine hs.of_fewer fun e he howed => ?_
    split at he
    · cases he
    · exact ⟨e, he, howed⟩
  | committed => exact SouthLaw_items s.staging hs
  | staged item => unfold stageItem; dsimp only; split <;> [exact hs; split <;> exact hs]
  | classReplaced | classInserted | classDeleted | released | unstaged | leased | opened | ended | replayed => exact hs
  | resetRuntime | resetTables => exact fun _ _ => ⟨rfl, by rintro e ⟨⟩⟩

theorem EngineEffect.southLaw {s t : State} (h : EngineEffect s t) (hs : s.SouthLaw) : t.SouthLaw := by
  cases h with
  | latched | recorded => exact hs
  | raised => exact State.keeps_of_mask State.maskRaise (fun _ => rfl) (State.raiseEntry_outside ..) hs
  | cleared => exact State.keeps_of_mask State.maskRaise (fun _ => rfl) (State.takeClear_outside ..) hs

end Sys2Proof.Machine
end

section
/-! The laws of the session, the capture, the queues and the South Arbiter (chapters 7, 8 and 9). -/

namespace Sys2Proof.Machine

open Sys2Proof

/-- Settles O51: the session's own effects are opening, renewal, ending, staging within it and the resets. -/
theorem sessionLawKept : Obligations.SessionLawKept := fun _ _ hs ht =>
  (Kept.of_engine_effects (P := State.SessionLaw) (fun _ _ _ h => h.sessionLaw) (fun _ _ _ h => h.sessionLaw) (fun _ _ h => h)
    (fun _ _ => State.reset_sessionLaw) (fun _ h => h)
    (fun s h => by unfold State.assertReset; split <;> exact h) (fun _ _ _ => State.reset_sessionLaw)).step hs ht

/-- Settles O52: arming, the trigger, the ring, the fill and the return to IDLE each keep the record's law. -/
theorem captureLawKept : Obligations.CaptureLawKept := fun _ _ hs ht =>
  (Kept.of_engine_effects (P := State.CaptureLaw) (fun _ _ _ h => h.captureLaw) (fun _ _ _ h => h.captureLaw) (fun _ _ h => h)
    (fun _ _ => Capture.initial_lawful) (fun _ h => h)
    (fun s h => by unfold State.assertReset; split <;> exact h) (fun _ _ _ => Capture.initial_lawful)).step hs ht

/-- Settles O53: an item joins only a queue with room, and a pick moves the guard count as R163 says. -/
theorem queueLawKept : Obligations.QueueLawKept := fun _ _ hs ht =>
  (Kept.of_engine_effects (P := State.QueueLaw) (fun _ _ _ h => h.queueLaw) (fun _ _ _ h => h.queueLaw) (fun _ _ h => h)
    (fun _ _ => State.queuesEmpty_queueLaw rfl rfl rfl rfl rfl rfl) (fun _ h => h)
    (fun s h => by unfold State.assertReset; split <;> exact h)
    (fun _ _ _ => State.queuesEmpty_queueLaw rfl rfl rfl rfl rfl rfl)).step hs ht

/-- Settles O59: every pick leaves the South transmitter busy or nothing waiting, and every joining at an idle one picks. -/
theorem southLawKept : Obligations.SouthLawKept := fun _ _ hs ht =>
  (Kept.of_engine_effects (P := State.SouthLaw) (fun _ _ _ h => h.southLaw) (fun _ _ _ h => h.southLaw) (fun _ _ h => h)
    (fun _ _ _ _ => ⟨rfl, by rintro e ⟨⟩⟩) (fun _ _ => by rintro ⟨⟩)
    (fun s h => by unfold State.assertReset; split <;> [rintro ⟨⟩; exact h])
    (fun _ _ _ _ _ => ⟨rfl, by rintro e ⟨⟩⟩)).step hs ht

end Sys2Proof.Machine
end

section
/-! SUPPORT. The law of the tables under every effect (R1, R10 to R12, R105, R118, R135 to R138). -/

namespace Sys2Proof.Machine

open Sys2Proof

/-! ### The law, table by table -/

/-- The law of the Channel Table's rows but for their number (R1, R10). -/
def RowsOrdered (rows : List Row) : Prop := Ascending rows ∧ ∀ r ∈ rows, r.config.valid

/-- The law of the Class Table (R11, R12). -/
def ClassesLawful (classes : List ClassEntry) : Prop :=
  classes.Pairwise (fun a b => a.code < b.code) ∧ classes.length ≤ Config.classCapacity ∧
    ∀ c ∈ classes, c.code ≠ 0 ∧ templateOk c = true

/-- The law of the Enrolment List's addresses against the rows (R105, R118). -/
def EnrolListed (rows : List Row) (addrs : List ChannelAddr) : Prop :=
  addrs.Nodup ∧ addrs.length ≤ Config.enrolCapacity ∧ ∀ a ∈ addrs, rowAt rows a = none

/-- The law of the Staging List (R135). -/
def StagingLawful (items : List StagedItem) : Prop :=
  (items.map StagedItem.addr).Nodup ∧ items.length ≤ Config.stagingCapacity ∧ ∀ c, StagedItem.row c ∈ items → c.valid

theorem State.tablesLaw_iff {s : State} :
    s.TablesLaw ↔ RowsOrdered s.rows ∧ s.rows.length ≤ Config.rowCapacity ∧ ClassesLawful s.classes ∧
      EnrolListed s.rows (s.enrol.map (·.addr)) ∧ StagingLawful s.staging := by
  unfold State.TablesLaw RowsOrdered ClassesLawful EnrolListed StagingLawful
  rw [List.length_map, List.forall_mem_map]
  constructor
  · rintro ⟨hasc, hlen, hvalid, hcodes, hcount, hok, hnodup, hroom, hnone, hstaged⟩
    exact ⟨⟨hasc, hvalid⟩, hlen, ⟨hcodes, hcount, hok⟩, ⟨hnodup, hroom, hnone⟩, hstaged⟩
  · rintro ⟨⟨hasc, hvalid⟩, hlen, ⟨hcodes, hcount, hok⟩, ⟨hnodup, hroom, hnone⟩, hstaged⟩
    exact ⟨hasc, hlen, hvalid, hcodes, hcount, hok, hnodup, hroom, hnone, hstaged⟩

theorem State.TablesLaw.valid {s : State} (h : s.TablesLaw) {r : Row} (hr : r ∈ s.rows) : r.config.valid :=
  (State.tablesLaw_iff.mp h).1.2 r hr

theorem State.TablesLaw.ascending {s : State} (h : s.TablesLaw) : Ascending s.rows := (State.tablesLaw_iff.mp h).1.1

theorem State.TablesLaw.staged {s : State} (h : s.TablesLaw) : StagingLawful s.staging :=
  (State.tablesLaw_iff.mp h).2.2.2.2

theorem State.TablesLaw.enrolled {s : State} (h : s.TablesLaw) : EnrolListed s.rows (s.enrol.map (·.addr)) :=
  (State.tablesLaw_iff.mp h).2.2.2.1

/-! ### The rows -/

theorem rowAt_isSome_iff {rows : List Row} {addr : ChannelAddr} :
    (rowAt rows addr).isSome = true ↔ ∃ r ∈ rows, r.config.addr = addr := by
  simp [rowAt]

/-- In a table in order one address has one row (R1). -/
theorem Ascending.eq_of_addr {rows : List Row} (h : Ascending rows) {r row : Row} (hr : r ∈ rows)
    (hrow : rowAt rows r.config.addr = some row) : r = row :=
  Option.some.inj ((rowAt_of_mem h hr).symm.trans hrow)

theorem RowsOrdered.insert {rows : List Row} (h : RowsOrdered rows) {c : RowConfig} (hc : c.valid) (now : Time)
    (hn : rowAt rows c.addr = none) : RowsOrdered (insertRow (freshRow c now) rows) := by
  refine ⟨insertRow_ascending h.1 hn, fun r hr => ?_⟩
  obtain rfl | hr := mem_insertRow.mp hr
  · exact hc
  · exact h.2 r hr

theorem RowsOrdered.change {rows : List Row} (h : RowsOrdered rows) {addr : ChannelAddr} {change : Row → Row}
    (haddr : ∀ r ∈ rows, r.config.addr = addr → (change r).config.addr = addr)
    (hvalid : ∀ r ∈ rows, r.config.addr = addr → (change r).config.valid) : RowsOrdered (changeRow rows addr change) := by
  refine ⟨ascending_iff.mpr ?_, fun r hr => ?_⟩
  · rw [changeRow_addrs haddr]
    exact ascending_iff.mp h.1
  · obtain ⟨x, hx, hxa, rfl⟩ | ⟨hr, -⟩ := mem_changeRow.mp hr
    · exact hvalid x hx hxa
    · exact h.2 r hr

theorem RowsOrdered.delete {rows : List Row} (h : RowsOrdered rows) (addr : ChannelAddr) :
    RowsOrdered (deleteRow rows addr) :=
  ⟨deleteRow_ascending h.1 addr, fun r hr => h.2 r (List.mem_filter.mp hr).1⟩

theorem mem_freshRows {rows : List Row} {now : Time} {r : Row} :
    r ∈ freshRows rows now ↔ ∃ x ∈ rows, freshRow x.config now = r := List.mem_map

/-- A reset's fresh records keep the configurations (R21). -/
theorem RowsOrdered.fresh {rows : List Row} (h : RowsOrdered rows) (now : Time) : RowsOrdered (freshRows rows now) := by
  refine ⟨ascending_iff.mpr ?_, fun r hr => ?_⟩
  · have haddrs : (freshRows rows now).map (·.config.addr) = rows.map (·.config.addr) := by
      simp [freshRows, freshRow, Function.comp_def]
    rw [haddrs]
    exact ascending_iff.mp h.1
  · obtain ⟨x, hx, rfl⟩ := mem_freshRows.mp hr
    exact h.2 x hx

/-! ### The Enrolment List's addresses -/

theorem EnrolListed.nil (rows : List Row) : EnrolListed rows [] := ⟨List.nodup_nil, Nat.zero_le _, by rintro a ⟨⟩⟩

theorem EnrolListed.sublist {rows : List Row} {addrs addrs' : List ChannelAddr} (h : EnrolListed rows addrs)
    (hs : addrs'.Sublist addrs) : EnrolListed rows addrs' :=
  ⟨h.1.sublist hs, hs.length_le.trans h.2.1, fun a ha => h.2.2 a (hs.subset ha)⟩

/-- No new address among the rows keeps every entry apart from them. -/
theorem EnrolListed.rows {rows rows' : List Row} {addrs : List ChannelAddr} (h : EnrolListed rows addrs)
    (hr : ∀ r ∈ rows', r.config.addr ∈ addrs → ∃ x ∈ rows, x.config.addr = r.config.addr) : EnrolListed rows' addrs := by
  refine ⟨h.1, h.2.1, fun a ha => rowAt_none.mpr fun r hmem heq => ?_⟩
  obtain ⟨x, hx, hxa⟩ := hr r hmem (heq ▸ ha)
  exact rowAt_none.mp (h.2.2 a ha) x hx (hxa.trans heq)

theorem removeEnrol_addrs (enrol : List EnrolEntry) (addr : ChannelAddr) :
    ((removeEnrol enrol addr).map (·.addr)).Sublist (enrol.map (·.addr)) := List.filter_sublist.map _

theorem not_mem_removeEnrol (enrol : List EnrolEntry) (addr : ChannelAddr) :
    addr ∉ (removeEnrol enrol addr).map (·.addr) := by
  simp [removeEnrol]

/-- An insert takes its address out of the Enrolment List (R16). -/
theorem EnrolListed.insert {rows : List Row} {enrol : List EnrolEntry} (h : EnrolListed rows (enrol.map (·.addr)))
    (c : RowConfig) (now : Time) :
    EnrolListed (insertRow (freshRow c now) rows) ((removeEnrol enrol c.addr).map (·.addr)) := by
  refine (h.sublist (removeEnrol_addrs enrol c.addr)).rows fun r hr ha => ?_
  obtain rfl | hr := mem_insertRow.mp hr
  · exact absurd ha (not_mem_removeEnrol enrol c.addr)
  · exact ⟨r, hr, rfl⟩

theorem changeEnrol_addrs {change : EnrolEntry → EnrolEntry} (h : ∀ e, (change e).addr = e.addr) (enrol : List EnrolEntry)
    (addr : ChannelAddr) : (changeEnrol enrol addr change).map (·.addr) = enrol.map (·.addr) := by
  unfold changeEnrol
  rw [List.map_map]
  refine List.map_congr_left fun e _ => ?_
  simp only [Function.comp]
  split
  · exact h e
  · rfl

theorem EnrolEntry.probed_addr (now : Time) (timeout : Nat) (e : EnrolEntry) : (e.probed now timeout).addr = e.addr := by
  unfold EnrolEntry.probed
  split <;> rfl

/-- A change of the Enrolment List that adds no address. -/
theorem State.TablesLaw.enrol {s : State} (h : s.TablesLaw) {enrol : List EnrolEntry}
    (hs : (enrol.map (·.addr)).Sublist (s.enrol.map (·.addr))) : State.TablesLaw { s with enrol } := by
  obtain ⟨hrows, hlen, hclasses, henrol, hstaging⟩ := State.tablesLaw_iff.mp h
  exact State.tablesLaw_iff.mpr ⟨hrows, hlen, hclasses, henrol.sublist hs, hstaging⟩

/-- A change of one entry that keeps its address (R116, R122, R124). -/
theorem State.TablesLaw.changeEnrol {s : State} (h : s.TablesLaw) (addr : ChannelAddr) {change : EnrolEntry → EnrolEntry}
    (hc : ∀ e, (change e).addr = e.addr) : State.TablesLaw { s with enrol := Machine.changeEnrol s.enrol addr change } :=
  h.enrol (by rw [changeEnrol_addrs hc])

/-! ### The items of a commit -/

theorem State.replaceConfig_rows (c : RowConfig) (s : State) :
    (s.replaceConfig c).rows = changeRow s.rows c.addr (fun _ => freshRow c s.now) := by
  simp [State.replaceConfig]

theorem State.deleteConfig_rows (addr : ChannelAddr) (s : State) : (s.deleteConfig addr).rows = deleteRow s.rows addr := by
  simp [State.deleteConfig]

/-- The rows in order with the Enrolment List apart from them: what every item keeps (R16 to R18). -/
def State.Ordered (s : State) : Prop := RowsOrdered s.rows ∧ EnrolListed s.rows (s.enrol.map (·.addr))

theorem State.Ordered.replace {s : State} (h : s.Ordered) {c : RowConfig} (hc : c.valid) : (s.replaceConfig c).Ordered := by
  have henrol : (s.replaceConfig c).enrol = s.enrol := by simp [State.replaceConfig]
  unfold State.Ordered
  rw [State.replaceConfig_rows, henrol]
  refine ⟨h.1.change (fun _ _ _ => rfl) (fun _ _ _ => hc), h.2.rows fun r hr _ => ?_⟩
  obtain ⟨x, hx, hxa, rfl⟩ | ⟨hr, -⟩ := mem_changeRow.mp hr
  · exact ⟨x, hx, hxa⟩
  · exact ⟨r, hr, rfl⟩

theorem State.Ordered.delete {s : State} (h : s.Ordered) (addr : ChannelAddr) : (s.deleteConfig addr).Ordered := by
  have henrol : (s.deleteConfig addr).enrol = s.enrol := by simp [State.deleteConfig]
  unfold State.Ordered
  rw [State.deleteConfig_rows, henrol]
  exact ⟨h.1.delete addr, h.2.rows fun r hr _ => ⟨r, (List.mem_filter.mp hr).1, rfl⟩⟩

theorem Ordered_items (items : List StagedItem) (hok : ∀ c, .row c ∈ items → c.valid) {s : State} (h : s.Ordered) :
    (items.foldl State.applyItem s).Ordered :=
  keeps_items (fun s c hc hn hs => ⟨hs.1.insert hc s.now hn, hs.2.insert c s.now⟩) (fun _ _ hc hs => hs.replace hc)
    (fun _ addr hs => hs.delete addr) items hok h

/-- An item changes which addresses have a row at its own address alone (R137). -/
theorem State.applyItem_isSome (s : State) (item : StagedItem) {addr : ChannelAddr} (h : addr ≠ item.addr) :
    (rowAt (s.applyItem item).rows addr).isSome = (rowAt s.rows addr).isSome := by
  rw [Bool.eq_iff_iff, rowAt_isSome_iff, rowAt_isSome_iff]
  cases item with
  | row c =>
    have hne : c.addr ≠ addr := Ne.symm h
    simp only [State.applyItem]
    split
    · simp only [State.replaceConfig_rows, mem_changeRow]
      constructor
      · rintro ⟨r, ⟨_, _, _, rfl⟩ | ⟨hr, -⟩, ha⟩
        · exact absurd ha hne
        · exact ⟨r, hr, ha⟩
      · rintro ⟨r, hr, ha⟩
        exact ⟨r, .inr ⟨hr, fun he => hne (he.symm.trans ha)⟩, ha⟩
    · simp only [State.insertConfig_rows, mem_insertRow]
      constructor
      · rintro ⟨r, rfl | hr, ha⟩
        · exact absurd ha hne
        · exact ⟨r, hr, ha⟩
      · rintro ⟨r, hr, ha⟩
        exact ⟨r, .inr hr, ha⟩
  | delete a =>
    simp only [State.applyItem]
    split
    · simp only [State.deleteConfig_rows, deleteRow, List.mem_filter, bne_iff_ne]
      constructor
      · rintro ⟨r, ⟨hr, -⟩, ha⟩
        exact ⟨r, hr, ha⟩
      · rintro ⟨r, hr, ha⟩
        exact ⟨r, ⟨hr, fun he => h (ha.symm.trans he)⟩, ha⟩
    · rfl

/-- One item against the count of R137: a deletion takes a row, an insert adds one. -/
theorem State.applyItem_length (s : State) (item : StagedItem) :
    (s.applyItem item).rows.length + (if classify s.rows item = .deletion then 1 else 0) ≤
      s.rows.length + (if classify s.rows item = .insert then 1 else 0) := by
  cases item with
  | row c =>
    cases hrow : (rowAt s.rows c.addr).isSome with
    | true => simp [State.applyItem, classify, StagedItem.addr, hrow, State.replaceConfig_rows]
    | false => simp [State.applyItem, classify, StagedItem.addr, hrow, insertRow_length]
  | delete a =>
    cases hrow : (rowAt s.rows a).isSome with
    | false => simp [State.applyItem, classify, StagedItem.addr, hrow]
    | true =>
      obtain ⟨r, hr, ha⟩ := rowAt_isSome_iff.mp hrow
      have hlt : (deleteRow s.rows a).length < s.rows.length :=
        List.length_filter_lt_length_iff_exists.mpr ⟨r, hr, by simp [ha]⟩
      simpa [State.applyItem, classify, StagedItem.addr, hrow, State.deleteConfig_rows] using hlt

theorem classify_congr {rows rows' : List Row} {item : StagedItem}
    (h : (rowAt rows' item.addr).isSome = (rowAt rows item.addr).isSome) : classify rows' item = classify rows item := by
  unfold classify
  rw [h]

/-- The rows that the items leave are at most those held, plus the inserts, minus the deletions, classified before the
commit: the items name different addresses (R137, R138). -/
theorem length_items (items : List StagedItem) (hn : (items.map StagedItem.addr).Nodup) (s : State) :
    (items.foldl State.applyItem s).rows.length + countClass s.rows .deletion items ≤
      s.rows.length + countClass s.rows .insert items := by
  induction items generalizing s with
  | nil => exact le_rfl
  | cons item items ih =>
    obtain ⟨hnew, hn⟩ := List.nodup_cons.mp hn
    have hclass (cls : ItemClass) : countClass (s.applyItem item).rows cls items = countClass s.rows cls items := by
      refine List.countP_congr fun i hi => ?_
      have hne : i.addr ≠ item.addr := fun he => hnew (he ▸ List.mem_map_of_mem hi)
      rw [classify_congr (s.applyItem_isSome item hne)]
    have hrest := ih hn (s.applyItem item)
    rw [hclass, hclass] at hrest
    have hone := s.applyItem_length item
    simp only [countClass, List.countP_cons, beq_iff_eq] at hrest hone ⊢
    rw [List.foldl_cons]
    omega

theorem State.applyItem_lists (s : State) (item : StagedItem) :
    (s.applyItem item).classes = s.classes ∧ (s.applyItem item).settings = s.settings := by
  cases item <;> simp only [State.applyItem, State.replaceConfig, State.deleteConfig] <;> split <;> simp

theorem items_classes (items : List StagedItem) (s : State) : (items.foldl State.applyItem s).classes = s.classes :=
  State.foldl_outside State.classes State.applyItem (fun s item => (s.applyItem_lists item).1) items s

theorem items_settings (items : List StagedItem) (s : State) : (items.foldl State.applyItem s).settings = s.settings :=
  State.foldl_outside State.settings State.applyItem (fun s item => (s.applyItem_lists item).2) items s

theorem StagingLawful.nil : StagingLawful [] := ⟨List.nodup_nil, Nat.zero_le _, by rintro c ⟨⟩⟩

/-- A commit within its capacity check keeps the law of the tables (R137, R138). -/
theorem State.TablesLaw.committed {s : State} (h : s.TablesLaw) (hfits : rowsAfter s.rows s.staging ≤ Config.rowCapacity) :
    State.TablesLaw { s.staging.foldl State.applyItem s with staging := [] } := by
  obtain ⟨hrows, -, hclasses, henrol, hnodup, -, hvalid⟩ := State.tablesLaw_iff.mp h
  obtain ⟨hrows', henrol'⟩ := Ordered_items s.staging hvalid ⟨hrows, henrol⟩
  have hcount := length_items s.staging hnodup s
  unfold rowsAfter at hfits
  refine State.tablesLaw_iff.mpr ⟨hrows', ?_, ?_, henrol', StagingLawful.nil⟩
  · show (s.staging.foldl State.applyItem s).rows.length ≤ _
    omega
  · show ClassesLawful (s.staging.foldl State.applyItem s).classes
    rw [items_classes]
    exact hclasses

/-! ### The Class Table -/

theorem mem_insertClass {c x : ClassEntry} {classes : List ClassEntry} : x ∈ insertClass c classes ↔ x = c ∨ x ∈ classes := by
  induction classes with
  | nil => simp [insertClass]
  | cons y ys ih =>
    unfold insertClass
    split
    · simp
    · simp only [List.mem_cons, ih, or_left_comm]

theorem insertClass_length (c : ClassEntry) (classes : List ClassEntry) :
    (insertClass c classes).length = classes.length + 1 := by
  induction classes with
  | nil => rfl
  | cons y ys ih => unfold insertClass; split <;> simp [ih]

theorem classAt_none {classes : List ClassEntry} {code : Byte} :
    classAt classes code = none ↔ ∀ c ∈ classes, c.code ≠ code := by
  simp [classAt]

/-- A new code keeps the order (R11). -/
theorem insertClass_ascending {c : ClassEntry} {classes : List ClassEntry}
    (h : classes.Pairwise (fun a b => a.code < b.code)) (hn : ∀ x ∈ classes, x.code ≠ c.code) :
    (insertClass c classes).Pairwise (fun a b => a.code < b.code) := by
  induction classes with
  | nil => simp [insertClass]
  | cons y ys ih =>
    obtain ⟨hy, hys⟩ := List.pairwise_cons.mp h
    obtain ⟨hne, hn⟩ := List.forall_mem_cons.mp hn
    unfold insertClass
    split
    · rename_i hlt
      exact List.pairwise_cons.mpr ⟨List.forall_mem_cons.mpr ⟨hlt, fun z hz => BitVec.lt_trans hlt (hy z hz)⟩, h⟩
    · rename_i hge
      have hlt : y.code < c.code := by
        have hnat : y.code.toNat ≠ c.code.toNat := fun he => hne (BitVec.eq_of_toNat_eq he)
        rw [BitVec.lt_def] at hge ⊢
        omega
      refine List.pairwise_cons.mpr ⟨fun z hz => ?_, ih hys hn⟩
      obtain rfl | hz := mem_insertClass.mp hz
      · exact hlt
      · exact hy z hz

section Classes

variable {classes : List ClassEntry} {c : ClassEntry}

theorem ClassesLawful.insert (h : ClassesLawful classes) (hc : c.code ≠ 0 ∧ templateOk c = true)
    (hn : classAt classes c.code = none) (hroom : classes.length < Config.classCapacity) :
    ClassesLawful (insertClass c classes) := by
  obtain ⟨hasc, -, hok⟩ := h
  refine ⟨insertClass_ascending hasc (classAt_none.mp hn), by rw [insertClass_length]; exact hroom, fun x hx => ?_⟩
  obtain rfl | hx := mem_insertClass.mp hx
  · exact hc
  · exact hok x hx

theorem ClassesLawful.replace (h : ClassesLawful classes) (hc : c.code ≠ 0 ∧ templateOk c = true) :
    ClassesLawful (classes.map (fun x => if x.code == c.code then c else x)) := by
  obtain ⟨hasc, hlen, hok⟩ := h
  have hcodes : (classes.map (fun x => if x.code == c.code then c else x)).map (·.code) = classes.map (·.code) := by
    rw [List.map_map]
    refine List.map_congr_left fun x _ => ?_
    by_cases hx : x.code = c.code <;> simp [hx]
  refine ⟨List.pairwise_map.mp ?_, by rwa [List.length_map], fun x hx => ?_⟩
  · rw [hcodes]
    exact List.pairwise_map.mpr hasc
  · obtain ⟨y, hy, rfl⟩ := List.mem_map.mp hx
    split
    · exact hc
    · exact hok y hy

theorem ClassesLawful.delete (h : ClassesLawful classes) (code : Byte) :
    ClassesLawful (classes.filter (fun c => c.code != code)) :=
  ⟨h.1.filter _, (List.length_filter_le _ _).trans h.2.1, fun c hc => h.2.2 c (List.mem_filter.mp hc).1⟩

end Classes

/-! ### The Staging List -/

theorem stagedPosition_lt {items : List StagedItem} {addr : ChannelAddr} :
    stagedPosition items addr < items.length ↔ addr ∈ items.map StagedItem.addr := by
  simp [stagedPosition, List.findIdx_lt_length]

/-- The position found holds the item for the address (R135). -/
theorem stagedPosition_addr {items : List StagedItem} {addr : ChannelAddr} (h : stagedPosition items addr < items.length) :
    items[stagedPosition items addr].addr = addr := by
  have hfound := List.findIdx_getElem (p := fun i : StagedItem => i.addr == addr) (w := h)
  exact beq_iff_eq.mp hfound

/-- Every outcome of placing an item (R135, R136). -/
theorem stageItem_cases (item : StagedItem) (s : State) :
    (stagedPosition s.staging item.addr < s.staging.length ∧
      (stageItem item s).1 = { s with staging := s.staging.set (stagedPosition s.staging item.addr) item }) ∨
    (item.addr ∉ s.staging.map StagedItem.addr ∧ s.staging.length < Config.stagingCapacity ∧
      (stageItem item s).1 = { s with staging := s.staging ++ [item] }) ∨
    (stageItem item s).1 = s := by
  unfold stageItem
  dsimp only
  split
  · rename_i hheld
    exact .inl ⟨hheld, rfl⟩
  rename_i hnew
  split
  · rename_i hroom
    exact .inr (.inl ⟨fun hmem => hnew (stagedPosition_lt.mpr hmem), hroom, rfl⟩)
  · exact .inr (.inr rfl)

/-- An item in place of that for its address keeps every item's address. -/
theorem set_stagedPosition_addrs {items : List StagedItem} {item : StagedItem}
    (h : stagedPosition items item.addr < items.length) :
    (items.set (stagedPosition items item.addr) item).map StagedItem.addr = items.map StagedItem.addr := by
  rw [List.map_set]
  refine List.set_getElem_self (as := items.map StagedItem.addr) (i := stagedPosition items item.addr)
    (h := by simpa using h) ▸ ?_
  simp [stagedPosition_addr h]

theorem StagingLawful.set {items : List StagedItem} (h : StagingLawful items) {item : StagedItem}
    (hheld : stagedPosition items item.addr < items.length) (hvalid : ∀ c, item = .row c → c.valid) :
    StagingLawful (items.set (stagedPosition items item.addr) item) := by
  obtain ⟨hnodup, hlen, hok⟩ := h
  refine ⟨by rw [set_stagedPosition_addrs hheld]; exact hnodup, by rwa [List.length_set], fun c hc => ?_⟩
  obtain hc | hc := List.mem_or_eq_of_mem_set hc
  · exact hok c hc
  · exact hvalid c hc.symm

theorem StagingLawful.append {items : List StagedItem} (h : StagingLawful items) {item : StagedItem}
    (hnew : item.addr ∉ items.map StagedItem.addr) (hroom : items.length < Config.stagingCapacity)
    (hvalid : ∀ c, item = .row c → c.valid) : StagingLawful (items ++ [item]) := by
  obtain ⟨hnodup, -, hok⟩ := h
  refine ⟨?_, by simpa using hroom, fun c hc => ?_⟩
  · rw [List.map_append, List.nodup_append]
    refine ⟨hnodup, List.nodup_singleton _, ?_⟩
    rintro a ha b hb rfl
    exact hnew (by simpa [List.mem_singleton.mp hb] using ha)
  · obtain hc | hc := List.mem_append.mp hc
    · exact hok c hc
    · exact hvalid c (List.mem_singleton.mp hc).symm

/-! ### Every effect -/

theorem State.TablesLaw.southJoined {s : State} (h : s.TablesLaw) : s.southJoined.TablesLaw :=
  State.keeps_of_mask State.maskSouth (fun _ => rfl) s.southJoined_outside h

theorem Effect.tablesLaw {s t : State} (h : Effect s t) (hs : s.TablesLaw) : t.TablesLaw := by
  obtain ⟨hrows, hlen, hclasses, henrol, hstaging⟩ := State.tablesLaw_iff.mp hs
  cases h with
  | traffic h => exact h.keeps (fun _ => rfl) hs
  | probeCompleted =>
    obtain h | ⟨addr, h⟩ := s.completeProbe_outside
    · exact State.keeps_of_mask State.maskSouth (fun _ => rfl) h hs
    · exact State.keeps_of_mask State.maskSouth (fun _ => rfl) h (hs.changeEnrol _ (EnrolEntry.probed_addr _ _))
  | created addr _ hrow hnew hroom =>
    refine State.TablesLaw.southJoined (State.tablesLaw_iff.mpr ⟨hrows, hlen, hclasses, ?_, hstaging⟩)
    obtain ⟨hnodup, -, hnone⟩ := henrol
    have hne : addr ∉ s.enrol.map (·.addr) := by
      rw [List.mem_map]
      rintro ⟨e, he, ha⟩
      exact enrolAt_isNone.mp (by rw [hnew]; rfl) e he ha
    rw [List.map_append]
    refine ⟨List.nodup_append.mpr ⟨hnodup, List.nodup_singleton _, ?_⟩, by simpa using hroom, fun a ha => ?_⟩
    · rintro a ha b hb rfl
      exact hne (by simpa [newEnrol, List.mem_singleton.mp hb] using ha)
    · obtain ha | ha := List.mem_append.mp ha
      · exact hnone a ha
      · rw [List.mem_singleton.mp ha]
        exact hrow
  | restarted | owed => exact State.TablesLaw.southJoined (hs.changeEnrol _ fun _ => rfl)
  | failed | refused => exact hs.changeEnrol _ fun _ => rfl
  | held addr => exact hs.enrol (removeEnrol_addrs _ _)
  | settings c =>
    refine State.tablesLaw_iff.mpr ⟨hrows, hlen, hclasses, ?_, hstaging⟩
    show EnrolListed s.rows ((if c.mode = .off then [] else s.enrol).map (·.addr))
    split
    · exact EnrolListed.nil _
    · exact henrol
  | inserted c e he hroom hvalid =>
    have hnone : rowAt s.rows c.addr = none :=
      henrol.2.2 c.addr (List.mem_map.mpr ⟨e, List.mem_of_find?_eq_some he, addr_of_enrolAt he⟩)
    refine State.tablesLaw_iff.mpr ⟨hrows.insert (hvalid fun x hx => (hclasses.2.2 x hx).2) s.now hnone, ?_, hclasses,
      henrol.insert c s.now, hstaging⟩
    rw [State.insertConfig_rows, insertRow_length]
    exact hroom
  | committed hfits => exact hs.committed hfits
  | classReplaced c hc => exact State.tablesLaw_iff.mpr ⟨hrows, hlen, hclasses.replace hc, henrol, hstaging⟩
  | classInserted c hc hnew hroom =>
    exact State.tablesLaw_iff.mpr ⟨hrows, hlen, hclasses.insert hc hnew hroom, henrol, hstaging⟩
  | classDeleted code => exact State.tablesLaw_iff.mpr ⟨hrows, hlen, hclasses.delete code, henrol, hstaging⟩
  | staged item _ _ hvalid =>
    obtain ⟨hheld, h⟩ | ⟨hnew, hroom, h⟩ | h := stageItem_cases item s <;> rw [h]
    · exact State.tablesLaw_iff.mpr ⟨hrows, hlen, hclasses, henrol, hstaging.set hheld hvalid⟩
    · exact State.tablesLaw_iff.mpr ⟨hrows, hlen, hclasses, henrol, hstaging.append hnew hroom hvalid⟩
    · exact hs
  | unstaged | opened | ended => exact State.tablesLaw_iff.mpr ⟨hrows, hlen, hclasses, henrol, StagingLawful.nil⟩
  | leased | replayed | released => exact hs
  | resetRuntime =>
    refine State.tablesLaw_iff.mpr ⟨hrows.fresh s.now, ?_, hclasses, EnrolListed.nil _, StagingLawful.nil⟩
    show (freshRows s.rows s.now).length ≤ _
    simpa [freshRows] using hlen
  | resetTables =>
    exact State.tablesLaw_iff.mpr ⟨⟨List.Pairwise.nil, by rintro r ⟨⟩⟩, Nat.zero_le _,
      ⟨List.Pairwise.nil, Nat.zero_le _, by rintro c ⟨⟩⟩, EnrolListed.nil _, StagingLawful.nil⟩

theorem EngineEffect.tablesLaw {s t : State} (h : EngineEffect s t) (hs : s.TablesLaw) : t.TablesLaw := by
  obtain ⟨hrows, hlen, hclasses, henrol, hstaging⟩ := State.tablesLaw_iff.mp hs
  cases h with
  | latched => exact hs
  | recorded row rt =>
    refine State.tablesLaw_iff.mpr ⟨hrows.change (fun _ _ => id) (fun r hr _ => hrows.2 r hr), ?_, hclasses,
      henrol.rows fun r hr _ => ?_, hstaging⟩
    · rw [State.setRecord_rows, changeRow_length]
      exact hlen
    · obtain ⟨x, hx, -, rfl⟩ | ⟨hr, -⟩ := mem_changeRow.mp hr
      · exact ⟨x, hx, rfl⟩
      · exact ⟨r, hr, rfl⟩
  | raised => exact State.keeps_of_mask State.store (fun _ => rfl) (State.raiseEntry_store ..) hs
  | cleared => exact State.keeps_of_mask State.store (fun _ => rfl) (State.takeClear_store ..) hs

theorem State.reset_tablesLaw : State.reset.TablesLaw :=
  State.tablesLaw_iff.mpr ⟨⟨List.Pairwise.nil, by rintro r ⟨⟩⟩, Nat.zero_le _,
    ⟨List.Pairwise.nil, Nat.zero_le _, by rintro c ⟨⟩⟩, EnrolListed.nil _, StagingLawful.nil⟩

/-- A release with PRESERVE high keeps the tables' law with their rows and classes (R187). -/
theorem State.TablesLaw.preserved {s : State} (h : s.TablesLaw) (straps : Byte) :
    State.TablesLaw { s.afterPins straps with
      rows := freshRows s.rows 0, classes := s.classes, settings := s.settings } := by
  obtain ⟨hrows, hlen, hclasses, -, -⟩ := State.tablesLaw_iff.mp h
  refine State.tablesLaw_iff.mpr ⟨hrows.fresh 0, ?_, hclasses, EnrolListed.nil _, StagingLawful.nil⟩
  show (freshRows s.rows 0).length ≤ _
  simpa [freshRows] using hlen

end Sys2Proof.Machine
end

section
/-! SUPPORT. The laws of the Enrolment List's entries, of the runtime records and of the Trip Latch under every effect
(R68, R72, R106, R107, R14). -/

namespace Sys2Proof.Machine

open Sys2Proof

/-! ### The entries of the Enrolment List (R106) -/

theorem mem_changeEnrol {enrol : List EnrolEntry} {addr : ChannelAddr} {change : EnrolEntry → EnrolEntry} {e : EnrolEntry}
    (h : e ∈ changeEnrol enrol addr change) : e ∈ enrol ∨ ∃ x ∈ enrol, x.addr = addr ∧ change x = e := by
  obtain ⟨x, hx, rfl⟩ := List.mem_map.mp h
  by_cases ha : x.addr = addr
  · exact .inr ⟨x, hx, ha, by simp [ha]⟩
  · exact .inl (by simpa [ha] using hx)

/-- In a list without a repeated address one address has one entry (R105). -/
theorem EnrolListed.eq_of_addr {rows : List Row} {enrol : List EnrolEntry} (h : EnrolListed rows (enrol.map (·.addr)))
    {e x : EnrolEntry} (he : enrolAt enrol e.addr = some e) (hx : x ∈ enrol) (ha : x.addr = e.addr) : x = e :=
  List.inj_on_of_nodup_map h.1 hx (List.mem_of_find?_eq_some he) ha

/-- An entry changed keeps the law when the change keeps its shape. -/
theorem State.EnrolLaw.change {s : State} (h : s.EnrolLaw) {addr : ChannelAddr} {change : EnrolEntry → EnrolEntry}
    (hc : ∀ x ∈ s.enrol, x.addr = addr → x.shaped → (change x).shaped) :
    State.EnrolLaw { s with enrol := changeEnrol s.enrol addr change } := by
  obtain ⟨hshaped, hrange, hoff⟩ := h
  refine ⟨fun e he => ?_, hrange, fun hmode => ?_⟩
  · obtain he | ⟨x, hx, ha, rfl⟩ := mem_changeEnrol he
    · exact hshaped e he
    · exact hc x hx ha (hshaped x hx)
  · show changeEnrol s.enrol addr change = []
    rw [hoff hmode]
    rfl

theorem State.EnrolLaw.remove {s : State} (h : s.EnrolLaw) (addr : ChannelAddr) :
    State.EnrolLaw { s with enrol := removeEnrol s.enrol addr } := by
  obtain ⟨hshaped, hrange, hoff⟩ := h
  refine ⟨fun e he => hshaped e (List.mem_filter.mp he).1, hrange, fun hmode => ?_⟩
  show removeEnrol s.enrol addr = []
  rw [hoff hmode]
  rfl

theorem EnrolEntry.restarted_shaped (e : EnrolEntry) : e.restarted.shaped := by
  simp [EnrolEntry.shaped, EnrolEntry.restarted]

theorem EnrolEntry.refused_shaped (reason : RefuseReason) (now : Time) {e : EnrolEntry} (h : e.shaped) :
    (e.refused reason now).shaped :=
  ⟨h.1, rfl, rfl, rfl⟩

theorem EnrolEntry.probed_shaped (now : Time) (timeout : Nat) {e : EnrolEntry} (h : e.shaped) :
    (e.probed now timeout).shaped := by
  unfold EnrolEntry.probed
  split
  · rename_i howed
    obtain ⟨-, hstate⟩ := h
    simp only [howed.1, howed.2, if_true] at hstate
    obtain ⟨hreason, -, hattempts⟩ := hstate
    refine ⟨Nat.succ_le_succ hattempts, ?_⟩
    simp [howed.1, hreason]
  · exact h

theorem EnrolEntry.owed_shaped {e : EnrolEntry} (h : e.shaped) (hp : e.state = .probing) (ha : e.attempts ≤ 7) :
    EnrolEntry.shaped { e with probeOwed := true, deadline := none } := by
  obtain ⟨hmax, hstate⟩ := h
  simp only [hp] at hstate
  refine ⟨hmax, ?_⟩
  simp [hp, hstate.1, ha]

theorem EnrolEntry.failed_shaped (time : Time) {e : EnrolEntry} (h : e.shaped) (hp : e.state = .probing)
    (hd : e.deadline.isSome = true) : EnrolEntry.shaped { e with state := .failed, deadline := some time } := by
  obtain ⟨hmax, hstate⟩ := h
  simp only [hp] at hstate
  obtain ⟨hreason, howed⟩ := hstate
  refine ⟨hmax, ?_, rfl, hreason⟩
  refine Bool.eq_false_iff.mpr fun ho => ?_
  rw [if_pos ho] at howed
  rw [howed.1] at hd
  cases hd

theorem State.southJoined_enrolLaw {s : State} (h : s.EnrolLaw) : s.southJoined.EnrolLaw :=
  State.keeps_of_mask State.maskSouth (fun _ => rfl) s.southJoined_outside h

theorem EnrolLaw_items (items : List StagedItem) {s : State} (h : s.EnrolLaw) :
    (items.foldl State.applyItem s).EnrolLaw :=
  keeps_items (ok := fun _ => True) (fun _ c _ _ hs => hs.remove c.addr)
    (fun s c _ hs => State.keeps_of_mask State.maskNorth (fun _ => rfl) (s.replaceConfig_outside c) hs)
    (fun s addr hs => State.keeps_of_mask State.maskCapture (fun _ => rfl) (s.deleteConfig_outside addr) hs)
    items (fun _ _ => trivial) h

theorem Effect.enrolLaw {s t : State} (h : Effect s t) (htables : s.TablesLaw) (hs : s.EnrolLaw) : t.EnrolLaw := by
  obtain ⟨hshaped, hrange, hoff⟩ := id hs
  cases h with
  | traffic h => exact h.keeps (fun _ => rfl) hs
  | probeCompleted =>
    obtain h | ⟨addr, h⟩ := s.completeProbe_outside
    · exact State.keeps_of_mask State.maskSouth (fun _ => rfl) h hs
    · exact State.keeps_of_mask State.maskSouth (fun _ => rfl) h
        (hs.change fun _ _ _ hx => EnrolEntry.probed_shaped _ _ hx)
  | created addr hmode =>
    refine State.southJoined_enrolLaw ⟨fun e he => ?_, hrange, fun hm => absurd hm hmode⟩
    obtain he | he := List.mem_append.mp he
    · exact hshaped e he
    · rw [List.mem_singleton.mp he]
      exact EnrolEntry.restarted_shaped (newEnrol addr s.now)
  | restarted => exact State.southJoined_enrolLaw (hs.change fun x _ _ _ => x.restarted_shaped)
  | owed e hheld hprobing hretry =>
    refine State.southJoined_enrolLaw (hs.change fun x hx ha hshape => ?_)
    obtain rfl := htables.enrolled.eq_of_addr hheld hx ha
    exact EnrolEntry.owed_shaped hshape hprobing (hretry.trans hrange.2.2)
  | failed e time hheld hprobing hdue =>
    refine hs.change (change := fun x => { x with state := .failed, deadline := some time }) fun x hx ha hshape => ?_
    obtain rfl := htables.enrolled.eq_of_addr hheld hx ha
    exact EnrolEntry.failed_shaped time hshape hprobing hdue
  | refused addr reason => exact hs.change fun _ _ _ hx => EnrolEntry.refused_shaped reason s.now hx
  | held addr => exact hs.remove addr
  | settings c hc =>
    refine ⟨fun e he => ?_, hc, fun hmode => if_pos hmode⟩
    dsimp only at he
    split at he
    · cases he
    · exact hshaped e he
  | inserted c => exact hs.remove c.addr
  | committed => exact EnrolLaw_items s.staging hs
  | staged item => unfold stageItem; dsimp only; split <;> [exact hs; split <;> exact hs]
  | classReplaced | classInserted | classDeleted | released | unstaged | leased | opened | ended | replayed => exact hs
  | resetRuntime | resetTables => exact ⟨by rintro e ⟨⟩, hrange, fun _ => rfl⟩

theorem EngineEffect.enrolLaw {s t : State} (h : EngineEffect s t) (hs : s.EnrolLaw) : t.EnrolLaw := by
  cases h with
  | latched | recorded => exact hs
  | raised => exact State.keeps_of_mask State.store (fun _ => rfl) (State.raiseEntry_store ..) hs
  | cleared => exact State.keeps_of_mask State.store (fun _ => rfl) (State.takeClear_store ..) hs

theorem State.reset_enrolLaw : State.reset.EnrolLaw := ⟨by rintro e ⟨⟩, ⟨by decide, by decide, by decide⟩, fun _ => rfl⟩

/-! ### The runtime records (Table 1-6) -/

/-- A predicate of single rows that fresh records have is kept by the items of a commit. -/
theorem forall_rows_items {ok : Row → Prop} (items : List StagedItem) {s : State}
    (hfresh : ∀ c, .row c ∈ items → ∀ now, ok (freshRow c now)) (h : ∀ r ∈ s.rows, ok r) :
    ∀ r ∈ (items.foldl State.applyItem s).rows, ok r := by
  refine keeps_items (P := fun s => ∀ r ∈ s.rows, ok r) (ok := fun c => ∀ now, ok (freshRow c now))
    (fun s c hc _ hs r hr => ?insert) (fun s c hc hs r hr => ?replace) (fun s addr hs r hr => ?delete) items hfresh h
  case insert =>
    obtain rfl | hr := mem_insertRow.mp hr
    · exact hc s.now
    · exact hs r hr
  case replace =>
    rw [State.replaceConfig_rows] at hr
    obtain ⟨_, _, _, rfl⟩ | ⟨hr, -⟩ := mem_changeRow.mp hr
    · exact hc s.now
    · exact hs r hr
  case delete =>
    rw [State.deleteConfig_rows] at hr
    exact hs r (List.mem_filter.mp hr).1

/-- What an effect does to the rows one by one: every row after it was there before it or has a fresh record of a valid
configuration. -/
theorem Effect.forall_rows {ok : Row → Prop} {s t : State} (h : Effect s t) (htables : s.TablesLaw)
    (hfresh : ∀ c : RowConfig, c.valid → ∀ now, ok (freshRow c now)) (hs : ∀ r ∈ s.rows, ok r) : ∀ r ∈ t.rows, ok r := by
  cases h with
  | traffic h => exact h.keeps (P := fun s => ∀ r ∈ s.rows, ok r) (fun _ => rfl) hs
  | probeCompleted =>
    obtain h | ⟨addr, h⟩ := s.completeProbe_outside
    · exact State.keeps_of_mask (P := fun s => ∀ r ∈ s.rows, ok r) State.maskSouth (fun _ => rfl) h hs
    · exact State.keeps_of_mask (P := fun s => ∀ r ∈ s.rows, ok r) State.maskSouth (fun _ => rfl) h hs
  | created | restarted | owed =>
    exact State.keeps_of_mask (P := fun s => ∀ r ∈ s.rows, ok r) State.maskSouth (fun _ => rfl)
      (State.southJoined_outside _) hs
  | inserted c e _ _ hvalid =>
    obtain ⟨-, -, hclasses, -, -⟩ := State.tablesLaw_iff.mp htables
    intro r hr
    obtain rfl | hr := mem_insertRow.mp hr
    · exact hfresh c (hvalid fun x hx => (hclasses.2.2 x hx).2) s.now
    · exact hs r hr
  | committed => exact forall_rows_items s.staging (fun c hc => hfresh c (htables.staged.2.2 c hc)) hs
  | staged item => unfold stageItem; dsimp only; split <;> [exact hs; split <;> exact hs]
  | failed | refused | held | settings | classReplaced | classInserted | classDeleted | released | unstaged | leased | opened
  | ended | replayed => exact hs
  | resetRuntime =>
    intro r hr
    obtain ⟨x, hx, rfl⟩ := mem_freshRows.mp hr
    exact hfresh x.config (htables.valid hx) s.now
  | resetTables => rintro r ⟨⟩

theorem Effect.recordLaw {s t : State} (h : Effect s t) (htables : s.TablesLaw) (hs : s.RecordLaw) : t.RecordLaw :=
  h.forall_rows htables (fun _ hc now => freshRow_inRange hc now) hs

theorem EngineEffect.recordLaw {s t : State} (h : EngineEffect s t) (htables : s.TablesLaw) (hs : s.RecordLaw) :
    t.RecordLaw := by
  cases h with
  | latched => exact hs
  | recorded row rt hfound hrange =>
    intro r hr
    obtain ⟨x, hx, ha, rfl⟩ | ⟨hr, -⟩ := mem_changeRow.mp hr
    · obtain rfl := htables.ascending.eq_of_addr hx (ha ▸ hfound)
      exact hrange (htables.valid hx) (hs x hx)
    · exact hs r hr
  | raised => exact State.keeps_of_mask State.store (fun _ => rfl) (State.raiseEntry_store ..) hs
  | cleared => exact State.keeps_of_mask State.store (fun _ => rfl) (State.takeClear_store ..) hs

/-- Fresh records of a lawful table lie in their ranges (R15, R21). -/
theorem State.TablesLaw.fresh_inRange {s : State} (h : s.TablesLaw) (now : Time) : ∀ r ∈ freshRows s.rows now, r.inRange := by
  intro r hr
  obtain ⟨x, hx, rfl⟩ := mem_freshRows.mp hr
  exact freshRow_inRange (h.valid hx) now

/-! ### The Trip Latch (R68) -/

theorem freshRow_holdsLatch (c : RowConfig) (now : Time) : (freshRow c now).holdsLatch = false := Bool.and_false _

theorem Effect.tripLatch {s t : State} (h : Effect s t) :
    t.tripLatch = s.tripLatch ∨ ∀ r ∈ t.rows, r.holdsLatch = false := by
  cases h with
  | traffic h => exact .inl (congrArg State.tripLatch h.store :)
  | probeCompleted =>
    obtain h | ⟨addr, h⟩ := s.completeProbe_outside <;> exact .inl (congrArg State.tripLatch h :)
  | created | restarted | owed => exact .inl (congrArg State.tripLatch (State.southJoined_outside _) :)
  | committed =>
    refine .inl (keeps_items (P := fun u => u.tripLatch = s.tripLatch) (ok := fun _ => True) (fun _ _ _ _ hs => hs)
      (fun u c _ hs => ?_) (fun u addr hs => ?_) s.staging (fun _ _ => trivial) rfl)
    · exact (congrArg State.tripLatch (u.replaceConfig_outside c) :).trans hs
    · exact (congrArg State.tripLatch (u.deleteConfig_outside addr) :).trans hs
  | staged item => unfold stageItem; dsimp only; split <;> [exact .inl rfl; split <;> exact .inl rfl]
  | inserted | failed | refused | held | settings | classReplaced | classInserted | classDeleted | unstaged | leased | opened
  | ended | replayed => exact .inl rfl
  | released hfree => exact .inr hfree
  | resetRuntime =>
    refine .inr fun r hr => ?_
    obtain ⟨x, -, rfl⟩ := mem_freshRows.mp hr
    exact freshRow_holdsLatch _ _
  | resetTables => exact .inr (by rintro r ⟨⟩)

theorem Effect.latchLaw {s t : State} (h : Effect s t) (htables : s.TablesLaw) (hs : s.LatchLaw) : t.LatchLaw := by
  intro hclear
  obtain hlatch | hfree := h.tripLatch
  · exact h.forall_rows htables (fun c _ now => freshRow_holdsLatch c now) (hs (hlatch.symm.trans hclear))
  · exact hfree

theorem EngineEffect.latchLaw {s t : State} (h : EngineEffect s t) (htables : s.TablesLaw) (hs : s.LatchLaw) : t.LatchLaw := by
  cases h with
  | latched => rintro ⟨⟩
  | recorded row rt hfound _ hlatch =>
    intro hclear r hr
    obtain ⟨x, hx, ha, rfl⟩ | ⟨hr, -⟩ := mem_changeRow.mp hr
    · obtain rfl := htables.ascending.eq_of_addr hx (ha ▸ hfound)
      refine Bool.eq_false_iff.mpr fun hholds => ?_
      obtain hheld | hset := hlatch hholds
      · exact Bool.false_ne_true ((hs hclear x hx).symm.trans hheld)
      · exact absurd (hset.symm.trans hclear) (by decide)
    · exact hs hclear r hr
  | raised => exact State.keeps_of_mask State.store (fun _ => rfl) (State.raiseEntry_store ..) hs
  | cleared => exact State.keeps_of_mask State.store (fun _ => rfl) (State.takeClear_store ..) hs

theorem freshRows_holdsLatch (rows : List Row) (now : Time) : ∀ r ∈ freshRows rows now, r.holdsLatch = false := by
  intro r hr
  obtain ⟨x, -, rfl⟩ := mem_freshRows.mp hr
  exact freshRow_holdsLatch _ _

/-- A law that reads neither the phase, the time nor the ports is kept when RST_N is asserted. -/
theorem State.assertReset_keeps {P : State → Prop}
    (hP : ∀ s : State, P { s with phase := .pinReset, now := 0, northTx := none, southTx := .idle, northRx := .idle,
                                  southRx := .idle } = P s) (s : State) (h : P s) : P s.assertReset := by
  unfold State.assertReset
  split
  · rwa [hP]
  · exact h

end Sys2Proof.Machine
end

section
/-! The laws of the tables, the Enrolment List's entries, the runtime records and the Trip Latch (chapters 1, 4 and 6). -/

namespace Sys2Proof.Machine

open Sys2Proof

/-- Settles O54: inserts keep the order and take the address out of the Enrolment List, and a commit within its capacity
check adds no more rows than it counted. -/
theorem tablesLawKept : Obligations.TablesLawKept := fun _ _ hs ht =>
  (Kept.of_engine_effects (P := State.TablesLaw) (fun _ _ _ h => h.tablesLaw) (fun _ _ _ h => h.tablesLaw) (fun _ _ h => h)
    (fun _ _ => State.reset_tablesLaw) (fun _ h => h) (State.assertReset_keeps fun _ => rfl)
    (fun straps _ h => h.preserved straps)).step hs ht

/-- Settles O55: each event leaves the entry in the shape of the state it moves to. -/
theorem enrolLawKept : Obligations.EnrolLawKept := fun _ _ htables hs ht =>
  ((Kept.of_engine_effects (P := fun s => s.TablesLaw ∧ s.EnrolLaw)
    (fun _ _ _ h hs => ⟨h.tablesLaw hs.1, h.enrolLaw hs.1 hs.2⟩)
    (fun _ _ _ h hs => ⟨h.tablesLaw hs.1, h.enrolLaw hs.2⟩) (fun _ _ h => h)
    (fun _ _ => ⟨State.reset_tablesLaw, State.reset_enrolLaw⟩) (fun _ h => h) (State.assertReset_keeps fun _ => rfl)
    (fun straps _ hs => ⟨hs.1.preserved straps, by rintro e ⟨⟩, hs.2.2.1, fun _ => rfl⟩)).step ⟨htables, hs⟩ ht).2

/-- Settles O56: an arrival's work keeps a record in its ranges, and every other change of a record is a fresh one. -/
theorem recordLawKept : Obligations.RecordLawKept := fun _ _ htables hs ht =>
  ((Kept.of_engine_effects (P := fun s => s.TablesLaw ∧ s.RecordLaw)
    (fun _ _ _ h hs => ⟨h.tablesLaw hs.1, h.recordLaw hs.1 hs.2⟩)
    (fun _ _ _ h hs => ⟨h.tablesLaw hs.1, h.recordLaw hs.1 hs.2⟩) (fun _ _ h => h)
    (fun _ _ => ⟨State.reset_tablesLaw, by rintro r ⟨⟩⟩) (fun _ h => h) (State.assertReset_keeps fun _ => rfl)
    (fun straps _ hs => ⟨hs.1.preserved straps, hs.1.fresh_inRange 0⟩)).step ⟨htables, hs⟩ ht).2

/-- Settles O57: the latch is set before the record that holds it is written, and cleared only when no row holds it. -/
theorem latchLawKept : Obligations.LatchLawKept := fun _ _ htables hs ht =>
  ((Kept.of_engine_effects (P := fun s => s.TablesLaw ∧ s.LatchLaw)
    (fun _ _ _ h hs => ⟨h.tablesLaw hs.1, h.latchLaw hs.1 hs.2⟩)
    (fun _ _ _ h hs => ⟨h.tablesLaw hs.1, h.latchLaw hs.1 hs.2⟩) (fun _ _ h => h)
    (fun _ _ => ⟨State.reset_tablesLaw, by rintro _ r ⟨⟩⟩) (fun _ h => h) (State.assertReset_keeps fun _ => rfl)
    (fun straps s hs => ⟨hs.1.preserved straps, fun _ => freshRows_holdsLatch s.rows 0⟩)).step ⟨htables, hs⟩ ht).2

end Sys2Proof.Machine
end

section
/-! SUPPORT. The law of the Alarm Table, the Overflow Record and the references, and the North Arbiter's picks (R80, R83,
R91, R94, R159, R162). -/

namespace Sys2Proof.Machine

open Sys2Proof

/-! ### The law, part by part -/

/-- The pair of an entry (R80). -/
def AlarmEntry.key (e : AlarmEntry) : ChannelAddr × AlarmKind := (e.addr, e.kind)

/-- What the law says of one entry but for its reference (R83, R85, R91). -/
def AlarmEntry.Lawful (e : AlarmEntry) : Prop :=
  e.episode ≠ 0 ∧ 1 ≤ e.occurrence ∧ e.occurrence ≤ 255 ∧ (e.state = .closed ↔ e.cause.isSome = true) ∧
    (e.state = .closed → e.reportOwed = true)

/-- One entry to a pair, at most 64, each lawful (R80). -/
def EntriesLawful (alarms : List AlarmEntry) : Prop :=
  (alarms.map AlarmEntry.key).Nodup ∧ alarms.length ≤ Config.alarmCapacity ∧ ∀ e ∈ alarms, e.Lawful

/-- What the law says of the Overflow Record but for its reference (R94). -/
def OverflowRecord.Lawful (o : OverflowRecord) : Prop :=
  (o.state = .clear → o.lostCount = 0 ∧ o.firstLost = none) ∧
    (o.state = .pending → 1 ≤ o.lostCount ∧ o.firstLost.isSome = true) ∧ o.lostCount ≤ 65535

/-- Whether what a reference names owes its report (R91). -/
def Owes (alarms : List AlarmEntry) (overflow : OverflowRecord) : Reference → Prop
  | .entry addr kind => ∃ e ∈ alarms, e.isFor addr kind = true ∧ e.reportOwed = true
  | .overflow => overflow.reportOwed = true

/-- One reference for each report owed and none else (R159). -/
def Referenced (alarms : List AlarmEntry) (overflow : OverflowRecord) (refs : List Reference) : Prop :=
  refs.Nodup ∧ ∀ r, r ∈ refs ↔ Owes alarms overflow r

theorem AlarmEntry.isFor_iff_key {addr : ChannelAddr} {kind : AlarmKind} {e : AlarmEntry} :
    e.isFor addr kind = true ↔ e.key = (addr, kind) := by
  rw [AlarmEntry.isFor_iff, AlarmEntry.key, Prod.mk.injEq]

theorem AlarmEntry.isFor_self (e : AlarmEntry) : e.isFor e.addr e.kind = true := AlarmEntry.isFor_iff.mpr ⟨rfl, rfl⟩

theorem entryAt_isSome {alarms : List AlarmEntry} {addr : ChannelAddr} {kind : AlarmKind} :
    (entryAt alarms addr kind).isSome = true ↔ ∃ e ∈ alarms, e.isFor addr kind = true := List.find?_isSome

theorem entryAt_none {alarms : List AlarmEntry} {addr : ChannelAddr} {kind : AlarmKind} (h : entryAt alarms addr kind = none) :
    ∀ e ∈ alarms, ¬ e.isFor addr kind = true := List.find?_eq_none.mp h

theorem entryAt_some {alarms : List AlarmEntry} {addr : ChannelAddr} {kind : AlarmKind} {e : AlarmEntry}
    (h : entryAt alarms addr kind = some e) : e ∈ alarms ∧ e.isFor addr kind = true :=
  ⟨List.mem_of_find?_eq_some h, List.find?_some h⟩

/-- A pair has one entry (R80). -/
theorem eq_of_key {alarms : List AlarmEntry} (h : (alarms.map AlarmEntry.key).Nodup) {e x : AlarmEntry} (he : e ∈ alarms)
    (hx : x ∈ alarms) (hkey : e.key = x.key) : e = x := List.inj_on_of_nodup_map h he hx hkey

theorem EntriesLawful.unique {alarms : List AlarmEntry} (h : EntriesLawful alarms) {addr : ChannelAddr} {kind : AlarmKind}
    {e x : AlarmEntry} (he : entryAt alarms addr kind = some e) (hx : x ∈ alarms) (hfor : x.isFor addr kind = true) : x = e := by
  obtain ⟨hmem, hkey⟩ := entryAt_some he
  exact eq_of_key h.1 hx hmem ((AlarmEntry.isFor_iff_key.mp hfor).trans (AlarmEntry.isFor_iff_key.mp hkey).symm)

theorem State.alarmLaw_iff {s : State} :
    s.AlarmLaw ↔ EntriesLawful s.alarms ∧ s.episode ≠ 0 ∧ s.overflow.Lawful ∧
      Referenced s.alarms s.overflow s.reportQ := by
  constructor
  · rintro ⟨hkeys, hlen, hepisode, hentries, hnodup, hnamed, hoverflow, hclear, hpending, hlost⟩
    refine ⟨⟨hkeys, hlen, fun e he => ?_⟩, hepisode, ⟨hclear, hpending, hlost⟩, hnodup, fun r => ?_⟩
    · obtain ⟨hepisode, hone, hmax, hcause, hclosed, -⟩ := hentries e he
      exact ⟨hepisode, hone, hmax, hcause, hclosed⟩
    · cases r with
      | overflow => exact hoverflow.symm
      | entry addr kind =>
        constructor
        · intro hr
          obtain ⟨e, he, hfor⟩ := entryAt_isSome.mp (hnamed addr kind hr)
          obtain ⟨rfl, rfl⟩ := AlarmEntry.isFor_iff.mp hfor
          obtain ⟨-, -, -, -, -, howed⟩ := hentries e he
          exact ⟨e, he, hfor, howed.mpr hr⟩
        · rintro ⟨e, he, hfor, howed⟩
          obtain ⟨rfl, rfl⟩ := AlarmEntry.isFor_iff.mp hfor
          obtain ⟨-, -, -, -, -, hreferenced⟩ := hentries e he
          exact hreferenced.mp howed
  · rintro ⟨⟨hkeys, hlen, hentries⟩, hepisode, ⟨hclear, hpending, hlost⟩, hnodup, howes⟩
    refine ⟨hkeys, hlen, hepisode, fun e he => ?_, hnodup, fun addr kind hr => ?_, (howes .overflow).symm, hclear, hpending,
      hlost⟩
    · obtain ⟨hepisode, hone, hmax, hcause, hclosed⟩ := hentries e he
      refine ⟨hepisode, hone, hmax, hcause, hclosed, fun howed => ?_, fun hr => ?_⟩
      · exact (howes _).mpr ⟨e, he, e.isFor_self, howed⟩
      · obtain ⟨x, hx, hfor, howed⟩ := (howes _).mp hr
        rwa [eq_of_key hkeys he hx (AlarmEntry.isFor_iff_key.mp hfor).symm]
    · obtain ⟨e, he, hfor, -⟩ := (howes _).mp hr
      exact entryAt_isSome.mpr ⟨e, he, hfor⟩

/-! ### An entry changed or freed -/

section Change

variable {alarms : List AlarmEntry} {overflow : OverflowRecord} {addr : ChannelAddr} {kind : AlarmKind}
  {change : AlarmEntry → AlarmEntry}

theorem mem_changeEntry {e : AlarmEntry} :
    e ∈ changeEntry alarms addr kind change ↔
      (∃ x ∈ alarms, x.isFor addr kind = true ∧ change x = e) ∨ e ∈ alarms ∧ ¬ e.isFor addr kind = true := by
  unfold changeEntry
  rw [List.mem_map]
  constructor
  · rintro ⟨x, hx, rfl⟩
    by_cases hfor : x.isFor addr kind = true
    · exact .inl ⟨x, hx, hfor, (if_pos hfor).symm⟩
    · rw [if_neg hfor]
      exact .inr ⟨hx, hfor⟩
  · rintro (⟨x, hx, hfor, rfl⟩ | ⟨he, hfor⟩)
    · exact ⟨x, hx, if_pos hfor⟩
    · exact ⟨e, he, if_neg hfor⟩

theorem mem_freeEntry {e : AlarmEntry} : e ∈ freeEntry alarms addr kind ↔ e ∈ alarms ∧ ¬ e.isFor addr kind = true := by
  simp [freeEntry]

theorem changeEntry_keys (hkey : ∀ x, (change x).key = x.key) :
    (changeEntry alarms addr kind change).map AlarmEntry.key = alarms.map AlarmEntry.key := by
  unfold changeEntry
  rw [List.map_map]
  refine List.map_congr_left fun x _ => ?_
  simp only [Function.comp]
  split
  · exact hkey x
  · rfl

theorem isFor_of_key {addr' : ChannelAddr} {kind' : AlarmKind} {e x : AlarmEntry} (h : e.key = x.key) :
    e.isFor addr' kind' = true ↔ x.isFor addr' kind' = true := by
  rw [AlarmEntry.isFor_iff_key, AlarmEntry.isFor_iff_key, h]

theorem EntriesLawful.changed (h : EntriesLawful alarms) (hkey : ∀ x, (change x).key = x.key)
    (hlawful : ∀ x ∈ alarms, x.isFor addr kind = true → (change x).Lawful) :
    EntriesLawful (changeEntry alarms addr kind change) := by
  obtain ⟨hkeys, hlen, hentries⟩ := h
  refine ⟨by rwa [changeEntry_keys hkey], by simpa [changeEntry] using hlen, fun e he => ?_⟩
  obtain ⟨x, hx, hfor, rfl⟩ | ⟨he, -⟩ := mem_changeEntry.mp he
  · exact hlawful x hx hfor
  · exact hentries e he

theorem EntriesLawful.free (h : EntriesLawful alarms) : EntriesLawful (freeEntry alarms addr kind) :=
  ⟨h.1.sublist (List.filter_sublist.map _), (List.length_filter_le _ _).trans h.2.1,
    fun e he => h.2.2 e (List.mem_filter.mp he).1⟩

/-- A change after which the entry of the pair owes its report (R90). -/
theorem owes_changeEntry_owed (hkey : ∀ x, (change x).key = x.key) (howed : ∀ x, (change x).reportOwed = true)
    (hheld : (entryAt alarms addr kind).isSome = true) (r : Reference) :
    Owes (changeEntry alarms addr kind change) overflow r ↔ Owes alarms overflow r ∨ r = .entry addr kind := by
  cases r with
  | overflow => simp [Owes]
  | entry addr' kind' =>
    constructor
    · rintro ⟨e, he, hfor, ho⟩
      obtain ⟨x, hx, hxfor, rfl⟩ | ⟨he, -⟩ := mem_changeEntry.mp he
      · obtain ⟨rfl, rfl⟩ := AlarmEntry.isFor_iff.mp hxfor
        obtain ⟨ha, hk⟩ := AlarmEntry.isFor_iff.mp ((isFor_of_key (hkey x)).mp hfor)
        exact .inr (by rw [ha, hk])
      · exact .inl ⟨e, he, hfor, ho⟩
    · rintro (⟨e, he, hfor, ho⟩ | hr)
      · by_cases hefor : e.isFor addr kind = true
        · exact ⟨change e, mem_changeEntry.mpr (.inl ⟨e, he, hefor, rfl⟩), (isFor_of_key (hkey e)).mpr hfor, howed e⟩
        · exact ⟨e, mem_changeEntry.mpr (.inr ⟨he, hefor⟩), hfor, ho⟩
      · obtain ⟨rfl, rfl⟩ := Reference.entry.inj hr
        obtain ⟨x, hx, hxfor⟩ := entryAt_isSome.mp hheld
        exact ⟨change x, mem_changeEntry.mpr (.inl ⟨x, hx, hxfor, rfl⟩), (isFor_of_key (hkey x)).mpr hxfor, howed x⟩

/-- The entry of a pair with its report taken: its owed reports without that one (R91). -/
theorem owes_changeEntry_taken (r : Reference) :
    Owes (changeEntry alarms addr kind (fun x => { x with reportOwed := false })) overflow r ↔
      Owes alarms overflow r ∧ r ≠ .entry addr kind := by
  cases r with
  | overflow => simp [Owes]
  | entry addr' kind' =>
    constructor
    · rintro ⟨e, he, hfor, ho⟩
      obtain ⟨x, hx, hxfor, rfl⟩ | ⟨he, hefor⟩ := mem_changeEntry.mp he
      · cases ho
      · exact ⟨⟨e, he, hfor, ho⟩, fun hr => hefor (by obtain ⟨rfl, rfl⟩ := Reference.entry.inj hr; exact hfor)⟩
    · rintro ⟨⟨e, he, hfor, ho⟩, hr⟩
      obtain ⟨ha, hk⟩ := AlarmEntry.isFor_iff.mp hfor
      refine ⟨e, mem_changeEntry.mpr (.inr ⟨he, fun hefor => hr ?_⟩), hfor, ho⟩
      obtain ⟨rfl, rfl⟩ := AlarmEntry.isFor_iff.mp hefor
      rw [← ha, ← hk]

/-- The entry of a pair freed: its owed reports without that one (R91). -/
theorem owes_freeEntry (r : Reference) :
    Owes (freeEntry alarms addr kind) overflow r ↔ Owes alarms overflow r ∧ r ≠ .entry addr kind := by
  cases r with
  | overflow => simp [Owes]
  | entry addr' kind' =>
    constructor
    · rintro ⟨e, he, hfor, ho⟩
      obtain ⟨he, hefor⟩ := mem_freeEntry.mp he
      exact ⟨⟨e, he, hfor, ho⟩, fun hr => hefor (by obtain ⟨rfl, rfl⟩ := Reference.entry.inj hr; exact hfor)⟩
    · rintro ⟨⟨e, he, hfor, ho⟩, hr⟩
      obtain ⟨ha, hk⟩ := AlarmEntry.isFor_iff.mp hfor
      refine ⟨e, mem_freeEntry.mpr ⟨he, fun hefor => hr ?_⟩, hfor, ho⟩
      obtain ⟨rfl, rfl⟩ := AlarmEntry.isFor_iff.mp hefor
      rw [← ha, ← hk]

end Change

/-! ### A reference taken -/

/-- The head of the Report Queue taken with its report: what is left is referenced by the rest (R91, R159). -/
theorem Referenced.tail {alarms alarms' : List AlarmEntry} {overflow overflow' : OverflowRecord} {r : Reference}
    {rest : List Reference} (h : Referenced alarms overflow (r :: rest))
    (howes : ∀ x, Owes alarms' overflow' x ↔ Owes alarms overflow x ∧ x ≠ r) : Referenced alarms' overflow' rest := by
  obtain ⟨hnodup, hrefs⟩ := h
  obtain ⟨hnew, hnodup⟩ := List.nodup_cons.mp hnodup
  refine ⟨hnodup, fun x => ?_⟩
  rw [howes, ← hrefs, List.mem_cons]
  constructor
  · exact fun hx => ⟨.inr hx, fun he => hnew (he ▸ hx)⟩
  · exact fun ⟨hx, hne⟩ => hx.resolve_left hne

theorem AlarmEntry.Lawful.taken {e : AlarmEntry} (h : e.Lawful) (hs : e.state ≠ .closed) :
    AlarmEntry.Lawful { e with reportOwed := false } := by
  obtain ⟨hepisode, hone, hmax, hcause, -⟩ := h
  exact ⟨hepisode, hone, hmax, hcause, fun hclosed => absurd hclosed hs⟩

/-- The report of the reference at the head of the queue: it is found, its transmission starts, and the law holds of what is
left (R91, R96). -/
theorem State.takeReport_lawful {s : State} {r : Reference} {rest : List Reference} (h : s.AlarmLaw)
    (hq : s.reportQ = r :: rest) (guard : Nat) :
    (State.takeReport r { s with reportQ := rest, guardCount := guard }).AlarmLaw ∧
      (State.takeReport r { s with reportQ := rest, guardCount := guard }).northTx ≠ none := by
  obtain ⟨hentries, hepisode, hoverflow, hrefs⟩ := State.alarmLaw_iff.mp h
  rw [hq] at hrefs
  cases r with
  | overflow =>
    refine ⟨State.alarmLaw_iff.mpr ⟨hentries, hepisode, hoverflow, hrefs.tail fun x => ?_⟩, by rintro ⟨⟩⟩
    cases x <;> simp [Owes, State.takeReport, State.takeOverflowReport]
  | entry addr kind =>
    obtain ⟨e, he, hfor, -⟩ := (hrefs.2 _).mp (List.mem_cons_self ..)
    obtain ⟨x, hx⟩ := Option.isSome_iff_exists.mp (entryAt_isSome.mpr ⟨e, he, hfor⟩)
    simp only [State.takeReport, State.takeEntryReport, hx]
    refine ⟨State.alarmLaw_iff.mpr ?_, by rintro ⟨⟩⟩
    by_cases hclosed : x.state = .closed
    · simp only [if_pos hclosed]
      exact ⟨hentries.free, hepisode, hoverflow, hrefs.tail owes_freeEntry⟩
    · simp only [if_neg hclosed]
      refine ⟨hentries.changed (change := fun x => { x with reportOwed := false }) (fun _ => rfl) fun y hy hyfor => ?_,
        hepisode, hoverflow, hrefs.tail owes_changeEntry_taken⟩
      obtain rfl := hentries.unique hx hy hyfor
      exact (hentries.2.2 y hy).taken hclosed

/-! ### The picks -/

/-- The two laws of the reports: the Alarm Table's and the North Arbiter's. -/
def State.ReportLaw (s : State) : Prop := s.AlarmLaw ∧ s.NorthLaw

/-- The law of the alarms reads the table, the record, the episode counter and the references alone. -/
theorem State.AlarmLaw.of_same {s t : State} (h : s.AlarmLaw) (ha : t.alarms = s.alarms) (he : t.episode = s.episode)
    (ho : t.overflow = s.overflow) (hq : t.reportQ = s.reportQ) : t.AlarmLaw := by
  unfold State.AlarmLaw
  rw [ha, he, ho, hq]
  exact h

theorem State.northLaw_of_busy {s : State} (h : s.northTx ≠ none) : s.NorthLaw := fun _ hidle => absurd hidle h

/-- A North pick leaves the alarms' law and, whatever was before, the arbiter's (R162). -/
theorem State.pickNorth_reportLaw {s : State} (h : s.AlarmLaw) : s.pickNorth.ReportLaw := by
  obtain ⟨hresponse, hreport, hnotice, hforward, hpick⟩ | ⟨f, rest, -, hpick⟩ | ⟨f, rest, -, -, hpick⟩ |
    ⟨r, rest, -, -, hq, hpick⟩ | ⟨n, rest, -, -, -, -, hpick⟩ := s.pickNorth_cases <;> rw [hpick]
  · exact ⟨h, fun _ _ => ⟨hresponse, hreport, hnotice, hforward⟩⟩
  · exact ⟨h, State.northLaw_of_busy (by rintro ⟨⟩)⟩
  · exact ⟨h, State.northLaw_of_busy (by rintro ⟨⟩)⟩
  · obtain ⟨hlaw, hbusy⟩ := State.takeReport_lawful h hq s.guardAfter
    exact ⟨hlaw, State.northLaw_of_busy hbusy⟩
  · exact ⟨h, State.northLaw_of_busy (by rintro ⟨⟩)⟩

theorem State.northJoined_reportLaw {s : State} (h : s.AlarmLaw) : s.northJoined.ReportLaw := by
  unfold State.northJoined
  split
  · exact State.pickNorth_reportLaw h
  · rename_i hbusy
    exact ⟨h, State.northLaw_of_busy fun hidle => hbusy (by rw [hidle]; rfl)⟩

/-! ### A reference placed -/

/-- The references with one at the tail, unless it is held (R91, R159). -/
def withReference (r : Reference) (refs : List Reference) : List Reference := if r ∈ refs then refs else refs ++ [r]

theorem Referenced.place {alarms alarms' : List AlarmEntry} {overflow overflow' : OverflowRecord} {r : Reference}
    {refs : List Reference} (h : Referenced alarms overflow refs)
    (howes : ∀ x, Owes alarms' overflow' x ↔ Owes alarms overflow x ∨ x = r) :
    Referenced alarms' overflow' (withReference r refs) := by
  obtain ⟨hnodup, hrefs⟩ := h
  unfold withReference
  split
  · rename_i hheld
    refine ⟨hnodup, fun x => ?_⟩
    rw [howes, ← hrefs]
    exact ⟨.inl, fun hx => hx.elim id fun he => he ▸ hheld⟩
  · rename_i hnew
    refine ⟨List.nodup_append.mpr ⟨hnodup, List.nodup_singleton _, ?_⟩, fun x => ?_⟩
    · rintro x hx y hy rfl
      exact hnew (List.mem_singleton.mp hy ▸ hx)
    · rw [howes, ← hrefs, List.mem_append, List.mem_singleton]

/-- A reference placed with its report owed (R91). -/
theorem State.placeReference_reportLaw {s : State} {r : Reference} (hnorth : s.NorthLaw) (hentries : EntriesLawful s.alarms)
    (hepisode : s.episode ≠ 0) (hoverflow : s.overflow.Lawful)
    (hrefs : Referenced s.alarms s.overflow (withReference r s.reportQ)) : (s.placeReference r).ReportLaw := by
  unfold State.placeReference
  unfold withReference at hrefs
  split
  · rename_i hheld
    rw [if_pos hheld] at hrefs
    exact ⟨State.alarmLaw_iff.mpr ⟨hentries, hepisode, hoverflow, hrefs⟩, hnorth⟩
  · rename_i hnew
    rw [if_neg hnew] at hrefs
    exact State.northJoined_reportLaw (State.alarmLaw_iff.mpr ⟨hentries, hepisode, hoverflow, hrefs⟩)

/-- A change to the entry of a pair that keeps it lawful and owing (R90, R91). -/
theorem State.changeAlarm_reportLaw {s : State} (h : s.ReportLaw) {addr : ChannelAddr} {kind : AlarmKind}
    {change : AlarmEntry → AlarmEntry} (hkey : ∀ x, (change x).key = x.key) (howed : ∀ x, (change x).reportOwed = true)
    (hheld : (entryAt s.alarms addr kind).isSome = true)
    (hlawful : ∀ x ∈ s.alarms, x.isFor addr kind = true → x.Lawful → (change x).Lawful) :
    (s.changeAlarm addr kind change).ReportLaw := by
  obtain ⟨halarms, hnorth⟩ := h
  obtain ⟨hentries, hepisode, hoverflow, hrefs⟩ := State.alarmLaw_iff.mp halarms
  exact State.placeReference_reportLaw (s := { s with alarms := changeEntry s.alarms addr kind change }) hnorth
    (hentries.changed hkey fun x hx hfor => hlawful x hx hfor (hentries.2.2 x hx)) hepisode hoverflow
    (hrefs.place (owes_changeEntry_owed hkey howed hheld))

/-! ### The moves of an entry -/

theorem AlarmEntry.moved_lawful {state : AlarmState} {cause : Option Cause} (hcause : state = .closed ↔ cause.isSome = true)
    (time : Time) {e : AlarmEntry} (h : e.Lawful) : (e.moved state cause time).Lawful := by
  obtain ⟨hepisode, hone, hmax, -, -⟩ := h
  exact ⟨hepisode, hone, hmax, hcause, fun _ => rfl⟩

theorem AlarmEntry.reraised_lawful (time : Time) (v : Value) {e : AlarmEntry} (hs : e.state ≠ .closed) (h : e.Lawful) :
    (e.reraised time v).Lawful := by
  obtain ⟨hepisode, hone, -, hcause, -⟩ := h
  refine ⟨hepisode, le_min (by decide) (Nat.le_add_left ..), min_le_left _ _, ?_, by rintro ⟨⟩⟩
  exact ⟨by rintro ⟨⟩, fun hc => absurd (hcause.mpr hc) hs⟩

theorem AlarmEntry.reopened_lawful (time : Time) (v : Value) {episode : BitVec 16} (he : episode ≠ 0) (e : AlarmEntry) :
    (e.reopened time v episode).Lawful :=
  ⟨he, le_rfl, by show 1 ≤ 255; omega, ⟨by rintro ⟨⟩, by rintro ⟨⟩⟩, by rintro ⟨⟩⟩

theorem newEntry_lawful (addr : ChannelAddr) (kind : AlarmKind) (time : Time) (v : Value) {episode : BitVec 16}
    (he : episode ≠ 0) : (newEntry addr kind time v episode).Lawful :=
  AlarmEntry.reopened_lawful time v he (newEntry addr kind time v episode)

/-- No episode number is 0: after 65535 comes 1 (R83). -/
theorem nextEpisode_ne_zero (e : BitVec 16) : nextEpisode e ≠ 0 := by
  unfold nextEpisode
  split
  · decide
  · bv_omega

theorem OverflowRecord.lose_lawful (time : Time) {o : OverflowRecord} (h : o.Lawful) : (o.lose time).Lawful := by
  obtain ⟨-, hpending, -⟩ := h
  refine ⟨by rintro ⟨⟩, fun _ => ⟨le_min (by decide) (Nat.le_add_left ..), ?_⟩, min_le_left _ _⟩
  show (if o.state = .clear then some time else o.firstLost).isSome = true
  split
  · rfl
  · rename_i hs
    have hp : o.state = .pending := by
      cases ho : o.state with
      | clear => exact absurd ho hs
      | pending => rfl
    exact (hpending hp).2

/-! ### The Alarm Unit's events -/

theorem State.raiseEntry_reportLaw {s : State} (addr : ChannelAddr) (kind : AlarmKind) (time : Time) (v : Value)
    (h : s.ReportLaw) : (s.raiseEntry addr kind time v).ReportLaw := by
  obtain ⟨halarms, hnorth⟩ := id h
  obtain ⟨hentries, hepisode, hoverflow, hrefs⟩ := State.alarmLaw_iff.mp halarms
  cases he : entryAt s.alarms addr kind with
  | none =>
    obtain hroom | hfull := lt_or_ge s.alarms.length Config.alarmCapacity
    · rw [State.raiseEntry_created he hroom]
      obtain ⟨hkeys, -, hlawful⟩ := hentries
      have hnew : (newEntry addr kind time v s.episode).isFor addr kind = true := AlarmEntry.isFor_self _
      refine State.placeReference_reportLaw hnorth ⟨?_, ?_, fun e hmem => ?_⟩ (nextEpisode_ne_zero _) hoverflow
        (hrefs.place fun x => ?_)
      · rw [List.map_append]
        refine List.nodup_append.mpr ⟨hkeys, List.nodup_singleton _, ?_⟩
        rintro a ha b hb rfl
        obtain ⟨e, hmem, hekey⟩ := List.mem_map.mp ha
        exact entryAt_none he e hmem (AlarmEntry.isFor_iff_key.mpr (hekey.trans (List.mem_singleton.mp hb)))
      · simpa using hroom
      · obtain hmem | hmem := List.mem_append.mp hmem
        · exact hlawful e hmem
        · rw [List.mem_singleton.mp hmem]
          exact newEntry_lawful addr kind time v hepisode
      · cases x with
        | overflow => simp [Owes]
        | entry addr' kind' =>
          simp only [Owes, List.mem_append, List.mem_singleton, or_and_right, exists_or, exists_eq_left,
            Reference.entry.injEq]
          rw [AlarmEntry.isFor_iff (e := newEntry addr kind time v s.episode)]
          exact or_congr_right ⟨fun hx => ⟨hx.1.1.symm, hx.1.2.symm⟩, fun hx => ⟨⟨hx.1.symm, hx.2.symm⟩, rfl⟩⟩
    · rw [State.raiseEntry_lost he hfull]
      refine State.placeReference_reportLaw hnorth hentries hepisode (OverflowRecord.lose_lawful time hoverflow) (hrefs.place fun x => ?_)
      cases x <;> simp [Owes, OverflowRecord.lose]
  | some e =>
    have hheld : (entryAt s.alarms addr kind).isSome = true := by rw [he]; rfl
    cases hs : e.state with
    | activeUnack | activeAck =>
      unfold State.raiseEntry
      simp only [he, hs]
      exact h
    | clearUnack =>
      rw [State.raiseEntry_reraised he hs]
      refine State.changeAlarm_reportLaw h (fun _ => rfl) (fun _ => rfl) hheld fun x hx hfor hlawful => ?_
      obtain rfl := hentries.unique he hx hfor
      exact AlarmEntry.reraised_lawful time v (by rw [hs]; decide) hlawful
    | closed =>
      rw [State.raiseEntry_reopened he hs]
      have hnext : State.ReportLaw { s with episode := nextEpisode s.episode } :=
        ⟨State.alarmLaw_iff.mpr ⟨hentries, nextEpisode_ne_zero _, hoverflow, hrefs⟩, hnorth⟩
      exact State.changeAlarm_reportLaw hnext (fun _ => rfl) (fun _ => rfl) hheld fun x _ _ _ =>
        AlarmEntry.reopened_lawful time v hepisode x

/-- An entry held put into another state with the cause that goes with it (R86, R87, R89). -/
theorem State.moved_reportLaw {s : State} {addr : ChannelAddr} {kind : AlarmKind} {state : AlarmState} {cause : Option Cause}
    (hcause : state = .closed ↔ cause.isSome = true) (hheld : (entryAt s.alarms addr kind).isSome = true) (time : Time)
    (h : s.ReportLaw) : (s.changeAlarm addr kind (AlarmEntry.moved state cause time)).ReportLaw :=
  State.changeAlarm_reportLaw h (fun _ => rfl) (fun _ => rfl) hheld fun _ _ _ hlawful =>
    AlarmEntry.moved_lawful hcause time hlawful

theorem State.takeClear_reportLaw {s : State} (addr : ChannelAddr) (kind : AlarmKind) (time : Time) (h : s.ReportLaw) :
    (s.takeClear addr kind time).ReportLaw := by
  cases he : entryAt s.alarms addr kind with
  | none => rwa [State.takeClear_absent he]
  | some e =>
    have hheld : (entryAt s.alarms addr kind).isSome = true := by rw [he]; rfl
    cases hs : e.state with
    | clearUnack => rwa [State.takeClear_ignored he (.inl hs)]
    | closed => rwa [State.takeClear_ignored he (.inr hs)]
    | activeUnack =>
      rw [State.takeClear_activeUnack he hs]
      exact State.moved_reportLaw (by decide) hheld time h
    | activeAck =>
      rw [State.takeClear_activeAck he hs]
      exact State.moved_reportLaw (by decide) hheld time h

theorem ackEntry_reportLaw {s : State} (addr : ChannelAddr) (kind : AlarmKind) (episode : BitVec 16) (h : s.ReportLaw) :
    (ackEntry addr kind episode s).1.ReportLaw := by
  unfold ackEntry
  split
  · exact h
  rename_i e he
  have hheld : (entryAt s.alarms addr kind).isSome = true := by rw [he]; rfl
  split
  · exact h
  split
  · exact State.moved_reportLaw (by decide) hheld s.now h
  · exact State.moved_reportLaw (by decide) hheld s.now h
  · exact h
  · exact h

theorem ackOverflow_reportLaw {s : State} (h : s.ReportLaw) : (ackOverflow s).1.ReportLaw := by
  obtain ⟨halarms, hnorth⟩ := id h
  obtain ⟨hentries, hepisode, -, hrefs⟩ := State.alarmLaw_iff.mp halarms
  unfold ackOverflow
  split
  · refine State.placeReference_reportLaw hnorth hentries hepisode ⟨fun _ => ⟨rfl, rfl⟩, by rintro ⟨⟩, Nat.zero_le _⟩
      (hrefs.place fun x => ?_)
    cases x <;> simp [Owes]
  · exact h

/-! ### The retirement of a row's entries (R89) -/

/-- Under the North Arbiter's law a reference placed while the part runs frees at most the entry it names: with the
transmitter idle nothing else waits (R162). -/
theorem State.placeReference_entryAt {s : State} (hrun : s.phase = .running) (hnorth : s.NorthLaw) {addr addr' : ChannelAddr}
    {kind kind' : AlarmKind} (hne : (addr', kind') ≠ (addr, kind)) (hheld : (entryAt s.alarms addr' kind').isSome = true) :
    (entryAt (s.placeReference (.entry addr kind)).alarms addr' kind').isSome = true := by
  obtain ⟨e, he, hfor⟩ := entryAt_isSome.mp hheld
  have hother : ¬ e.isFor addr kind = true := fun hsame =>
    hne ((AlarmEntry.isFor_iff_key.mp hfor).symm.trans (AlarmEntry.isFor_iff_key.mp hsame))
  unfold State.placeReference State.northJoined
  split
  · exact hheld
  split
  swap
  · exact hheld
  rename_i hidle
  obtain ⟨hresponse, hreport, hnotice, hforward⟩ := hnorth hrun (Option.isNone_iff_eq_none.mp hidle)
  simp only [State.pickNorth, State.pickResponse, State.pickReport, hforward, hresponse, hreport, ne_eq, not_true_eq_false,
    and_false, if_false, List.nil_append, State.takeReport, State.takeEntryReport]
  split
  · exact hheld
  · dsimp only
    split
    · exact entryAt_isSome.mpr ⟨e, mem_freeEntry.mpr ⟨he, hother⟩, hfor⟩
    · exact entryAt_isSome.mpr ⟨e, mem_changeEntry.mpr (.inr ⟨he, hother⟩), hfor⟩

theorem State.changeAlarm_entryAt {s : State} (hrun : s.phase = .running) (hnorth : s.NorthLaw) {addr addr' : ChannelAddr}
    {kind kind' : AlarmKind} (change : AlarmEntry → AlarmEntry) (hne : (addr', kind') ≠ (addr, kind))
    (hheld : (entryAt s.alarms addr' kind').isSome = true) :
    (entryAt (s.changeAlarm addr kind change).alarms addr' kind').isSome = true := by
  obtain ⟨e, he, hfor⟩ := entryAt_isSome.mp hheld
  have hother : ¬ e.isFor addr kind = true := fun hsame =>
    hne ((AlarmEntry.isFor_iff_key.mp hfor).symm.trans (AlarmEntry.isFor_iff_key.mp hsame))
  exact State.placeReference_entryAt (s := { s with alarms := changeEntry s.alarms addr kind change }) hrun hnorth hne
    (entryAt_isSome.mpr ⟨e, mem_changeEntry.mpr (.inr ⟨he, hother⟩), hfor⟩)

/-- The kinds of an address's entries are its own entries' (R89). -/
theorem mem_kindsOf {alarms : List AlarmEntry} {addr : ChannelAddr} {kind : AlarmKind} :
    kind ∈ kindsOf alarms addr ↔ (entryAt alarms addr kind).isSome = true := by
  simp only [kindsOf, List.mem_map, List.mem_filter, beq_iff_eq, entryAt_isSome, AlarmEntry.isFor_iff, and_assoc]

theorem kindsOf_nodup {alarms : List AlarmEntry} (h : (alarms.map AlarmEntry.key).Nodup) (addr : ChannelAddr) :
    (kindsOf alarms addr).Nodup := by
  refine List.Nodup.map_on (fun x hx y hy hkind => ?_) ((h.of_map _).filter _)
  obtain ⟨hx, hxa⟩ := List.mem_filter.mp hx
  obtain ⟨hy, hya⟩ := List.mem_filter.mp hy
  rw [beq_iff_eq] at hxa hya
  exact eq_of_key h hx hy (Prod.ext (hxa.trans hya.symm) hkind)

/-- Entries of one address closed one kind after another: each is still there at its turn (R89). -/
theorem retired_reportLaw (addr : ChannelAddr) (kinds : List AlarmKind) {s : State} (hrun : s.phase = .running)
    (hnodup : kinds.Nodup) (hheld : ∀ kind ∈ kinds, (entryAt s.alarms addr kind).isSome = true) (h : s.ReportLaw) :
    (kinds.foldl (fun s kind => s.changeAlarm addr kind (AlarmEntry.moved .closed (some .retired) s.now)) s).ReportLaw := by
  induction kinds generalizing s with
  | nil => exact h
  | cons kind kinds ih =>
    obtain ⟨hnew, hnodup⟩ := List.nodup_cons.mp hnodup
    obtain ⟨hfirst, hrest⟩ := List.forall_mem_cons.mp hheld
    refine ih ((s.changeAlarm_phase ..).trans hrun) hnodup (fun kind' hk => ?_)
      (State.moved_reportLaw (by decide) hfirst s.now h)
    exact State.changeAlarm_entryAt hrun h.2 _ (fun he => hnew ((Prod.mk.inj he).2 ▸ hk)) (hrest kind' hk)

theorem State.retire_reportLaw {s : State} (addr : ChannelAddr) (hrun : s.phase = .running) (h : s.ReportLaw) :
    (s.retire addr).ReportLaw :=
  retired_reportLaw addr _ hrun (kindsOf_nodup (State.alarmLaw_iff.mp h.1).1.1 addr) (fun _ hk => mem_kindsOf.mp hk) h

/-! ### Every effect -/

theorem State.offerForward_reportLaw {s : State} (f : Frame) (h : s.ReportLaw) : (s.offerForward f).ReportLaw := by
  unfold State.offerForward
  split
  · exact State.northJoined_reportLaw (h.1.of_same rfl rfl rfl rfl)
  · exact h

theorem State.offerNotice_reportLaw {s : State} (n : Notice) (h : s.ReportLaw) : (s.offerNotice n).ReportLaw := by
  unfold State.offerNotice
  split
  · exact State.northJoined_reportLaw (h.1.of_same rfl rfl rfl rfl)
  · exact h

theorem State.takeElement_reportLaw {s : State} (addr : ChannelAddr) (e : Element) (h : s.ReportLaw) :
    (s.takeElement addr e).ReportLaw := by
  unfold State.takeElement
  split
  · split
    · exact h
    · exact h
    · exact h
    · dsimp only
      split
      · exact State.offerNotice_reportLaw _ h
      · exact h
  · exact h

theorem Traffic.reportLaw {s t : State} (h : Traffic s t) (hs : s.ReportLaw) : t.ReportLaw := by
  cases h with
  | waiting | time | counted | armed | triggered | idled => exact hs
  | receiver port => cases port <;> exact hs
  | forward f => exact State.offerForward_reportLaw f hs
  | notice n => exact State.offerNotice_reportLaw n hs
  | response => exact State.northJoined_reportLaw (hs.1.of_same rfl rfl rfl rfl)
  | northCompleted =>
    unfold State.completeNorth
    split
    · exact State.pickNorth_reportLaw (hs.1.of_same rfl rfl rfl rfl)
    · exact hs
  | command f => exact State.keeps_of_mask State.maskSouth (fun _ => rfl) (State.offerCommand_outside f s) hs
  | commandCompleted => exact State.keeps_of_mask State.maskSouth (fun _ => rfl) s.completeCommand_outside hs
  | acked addr kind episode => exact ackEntry_reportLaw addr kind episode hs
  | overflowAcked => exact ackOverflow_reportLaw hs
  | element addr e => exact State.takeElement_reportLaw addr e hs
  | aborted => exact State.offerNotice_reportLaw _ hs

theorem ReportLaw_items (items : List StagedItem) {s : State} (hrun : s.phase = .running) (h : s.ReportLaw) :
    (items.foldl State.applyItem s).ReportLaw := by
  refine (keeps_items (P := fun s => s.phase = .running ∧ s.ReportLaw) (ok := fun _ => True) (fun _ _ _ _ hs => hs)
    (fun s c _ hs => ?replace) (fun s addr hs => ?delete) items (fun _ _ => trivial) ⟨hrun, h⟩).2
  case replace => exact ⟨(State.of_maskNorth_phase (s.replaceConfig_outside c)).trans hs.1, State.retire_reportLaw c.addr hs.1 hs.2⟩
  case delete =>
    have hretired : (State.retire addr { s with rows := deleteRow s.rows addr }).ReportLaw :=
      State.retire_reportLaw addr hs.1 hs.2
    refine ⟨(State.of_maskCapture_phase (s.deleteConfig_outside addr)).trans hs.1, ?_⟩
    unfold State.deleteConfig State.captureRowDeleted
    split
    · exact State.offerNotice_reportLaw _ hretired
    · exact hretired

/-- An empty Alarm Table with nothing waiting (R104, R167). -/
theorem State.cleared_reportLaw {s : State} (hepisode : s.episode ≠ 0) (ha : s.alarms = [])
    (ho : s.overflow = OverflowRecord.initial) (hq : s.reportQ = [] ∧ s.responseQ = [] ∧ s.noticeQ = [] ∧ s.forwardQ = []) :
    s.ReportLaw := by
  obtain ⟨hreport, hresponse, hnotice, hforward⟩ := hq
  refine ⟨?_, fun _ _ => ⟨hresponse, hreport, hnotice, hforward⟩⟩
  refine State.alarmLaw_iff.mpr ⟨?_, hepisode, ?_, ?_⟩
  · rw [ha]
    exact ⟨List.nodup_nil, Nat.zero_le _, by rintro e ⟨⟩⟩
  · rw [ho]
    exact ⟨fun _ => ⟨rfl, rfl⟩, by rintro ⟨⟩, Nat.zero_le _⟩
  · rw [ha, ho, hreport]
    refine ⟨List.nodup_nil, fun r => ?_⟩
    cases r <;> simp [Owes, OverflowRecord.initial]

theorem Effect.reportLaw {s t : State} (hrun : s.phase = .running) (h : Effect s t) (hs : s.ReportLaw) : t.ReportLaw := by
  cases h with
  | traffic h => exact h.reportLaw hs
  | probeCompleted =>
    obtain h | ⟨addr, h⟩ := s.completeProbe_outside <;> exact State.keeps_of_mask State.maskSouth (fun _ => rfl) h hs
  | created | restarted | owed => exact State.keeps_of_mask State.maskSouth (fun _ => rfl) (State.southJoined_outside _) hs
  | committed => exact ReportLaw_items s.staging hrun hs
  | staged item => unfold stageItem; dsimp only; split <;> [exact hs; split <;> exact hs]
  | failed | refused | held | settings | inserted | classReplaced | classInserted | classDeleted | released | unstaged
  | leased | opened | ended | replayed => exact hs
  | resetRuntime | resetTables =>
    exact State.cleared_reportLaw (State.alarmLaw_iff.mp hs.1).2.1 rfl rfl ⟨rfl, rfl, rfl, rfl⟩

theorem EngineEffect.reportLaw {s t : State} (h : EngineEffect s t) (hs : s.ReportLaw) : t.ReportLaw := by
  cases h with
  | latched | recorded => exact hs
  | raised addr kind time v => exact State.raiseEntry_reportLaw addr kind time v hs
  | cleared addr kind time => exact State.takeClear_reportLaw addr kind time hs

theorem State.reset_reportLaw : State.reset.ReportLaw :=
  State.cleared_reportLaw (by decide) rfl rfl ⟨rfl, rfl, rfl, rfl⟩

/-- An asserted RST_N cuts off the transmission with the part no longer running (R187). -/
theorem State.assertReset_reportLaw (s : State) (h : s.ReportLaw) : s.assertReset.ReportLaw := by
  unfold State.assertReset
  split
  · exact ⟨h.1, by rintro ⟨⟩⟩
  · exact h

end Sys2Proof.Machine
end

section
/-! The law of the Alarm Table and of the North Arbiter (chapters 5 and 9). -/

namespace Sys2Proof.Machine

open Sys2Proof

/-- Settles O58: a pick takes the report of the entry its reference names, and every change that owes a report places its
reference; a pick leaves the transmitter busy unless nothing waits. -/
theorem alarmLawKept : Obligations.AlarmLawKept := fun _ _ halarms hnorth ht =>
  (Kept.of_engine_effects (P := State.ReportLaw) (fun _ _ hrun h => h.reportLaw hrun) (fun _ _ _ h => h.reportLaw)
    (fun _ _ h => h) (fun _ _ => State.reset_reportLaw) (fun _ h => ⟨h.1, by rintro ⟨⟩⟩) State.assertReset_reportLaw
    (fun _ _ _ => State.reset_reportLaw)).step ⟨halarms, hnorth⟩ ht

end Sys2Proof.Machine
end

section
/-! SUPPORT. The law between the Alarm Table and the runtime records (R80, R81, R85). A pair's condition is given by the row of
the address: nothing without a row, else whether the kind's condition is active. The law is that every entry fits the condition
of its pair; during an arrival the entries fit the conditions as the events taken so far give them. -/

namespace Sys2Proof.Machine

open Sys2Proof

/-! ### The rows by address -/

theorem rowAt_changeRow {rows : List Row} {addr : ChannelAddr} {change : Row → Row}
    (h : ∀ r, r.config.addr = addr → (change r).config.addr = addr) (a : ChannelAddr) :
    rowAt (changeRow rows addr change) a = (rowAt rows a).map (fun r => if r.config.addr = addr then change r else r) := by
  have hsame (r : Row) : ((if r.config.addr = addr then change r else r).config.addr == a) = (r.config.addr == a) := by
    split
    · rename_i ha
      rw [h r ha, ha]
    · rfl
  simp only [rowAt, changeRow, List.find?_map, Function.comp_def, beq_iff_eq, hsame]

theorem rowAt_changeRow_self {rows : List Row} {addr : ChannelAddr} {change : Row → Row}
    (h : ∀ r, r.config.addr = addr → (change r).config.addr = addr) {r : Row} (hr : rowAt rows addr = some r) :
    rowAt (changeRow rows addr change) addr = some (change r) := by
  rw [rowAt_changeRow h, hr, Option.map_some, if_pos (rowAt_addr hr)]

theorem rowAt_changeRow_ne {rows : List Row} {addr a : ChannelAddr} {change : Row → Row}
    (h : ∀ r, r.config.addr = addr → (change r).config.addr = addr) (hne : a ≠ addr) :
    rowAt (changeRow rows addr change) a = rowAt rows a := by
  rw [rowAt_changeRow h]
  cases hr : rowAt rows a with
  | none => rfl
  | some r => rw [Option.map_some, if_neg fun ha => hne ((rowAt_addr hr).symm.trans ha)]

theorem rowAt_insertRow_ne {r : Row} {rows : List Row} {a : ChannelAddr} (hne : a ≠ r.config.addr) :
    rowAt (insertRow r rows) a = rowAt rows a := by
  have hr : (r.config.addr == a) = false := beq_eq_false_iff_ne.mpr (Ne.symm hne)
  induction rows with
  | nil => simp [insertRow, rowAt, hr]
  | cons x xs ih =>
    unfold insertRow
    split
    · simp [rowAt, hr]
    · simp only [rowAt, List.find?_cons] at ih ⊢
      rw [ih]

theorem rowAt_deleteRow_self (rows : List Row) (addr : ChannelAddr) : rowAt (deleteRow rows addr) addr = none := by
  simp [rowAt_none, deleteRow]

theorem rowAt_deleteRow_ne {rows : List Row} {addr a : ChannelAddr} (hne : a ≠ addr) :
    rowAt (deleteRow rows addr) a = rowAt rows a := by
  unfold rowAt deleteRow
  rw [List.find?_filter]
  congr 1
  funext r
  by_cases ha : r.config.addr = a
  · simp [ha, hne]
  · simp [ha]

/-! ### Entries that fit the conditions -/

/-- The condition of a pair: none without a row, else whether it is active in the row's record (chapters 3 and 4). -/
def condition (rows : List Row) (pair : ChannelAddr × AlarmKind) : Option Bool :=
  (rowAt rows pair.1).map (fun r => r.rt.holds pair.2)

/-- An entry fits a condition: CLOSED without a row, else in an active state exactly when the condition is active (R81). -/
def AlarmEntry.Fits (e : AlarmEntry) : Option Bool → Prop
  | none => e.state = .closed
  | some active => e.state = .activeUnack ∨ e.state = .activeAck ↔ active = true

/-- Every entry fits the condition given for its pair. -/
def Fitting (alarms : List AlarmEntry) (cond : ChannelAddr × AlarmKind → Option Bool) : Prop :=
  ∀ e ∈ alarms, e.Fits (cond e.key)

theorem State.conditionLaw_iff {s : State} : s.ConditionLaw ↔ Fitting s.alarms (condition s.rows) := by
  refine forall₂_congr fun e _ => ?_
  unfold condition AlarmEntry.key
  cases hrow : rowAt s.rows e.addr with
  | none =>
    simp only [Option.isSome_none, Bool.false_eq_true, imp_false, not_not, reduceCtorEq, false_implies, implies_true,
      and_true, Option.map_none]
    exact Iff.rfl
  | some r =>
    simp only [Option.isSome_some, implies_true, true_and, Option.some.injEq, forall_eq', Option.map_some]
    exact Iff.rfl

theorem Fitting.nil (cond : ChannelAddr × AlarmKind → Option Bool) : Fitting [] cond := by rintro e ⟨⟩

theorem AlarmEntry.fits_of_state {e x : AlarmEntry} (h : e.state = x.state) {b : Option Bool} (hx : x.Fits b) : e.Fits b := by
  cases b with
  | none => exact h.trans hx
  | some active =>
    show e.state = .activeUnack ∨ e.state = .activeAck ↔ active = true
    rw [h]
    exact hx

theorem AlarmEntry.fits_of_closed {e : AlarmEntry} (h : e.state = .closed) {b : Option Bool} (hb : b ≠ some true) :
    e.Fits b := by
  cases b with
  | none => exact h
  | some active =>
    have hactive : active = false := Bool.eq_false_iff.mpr fun ha => hb (ha ▸ rfl)
    simp [AlarmEntry.Fits, h, hactive]

/-- Closed entries fit any condition that is not active. -/
theorem Fitting.weaken {alarms : List AlarmEntry} {cond cond' : ChannelAddr × AlarmKind → Option Bool}
    (h : Fitting alarms cond) (hc : ∀ pair, cond' pair = cond pair ∨ cond pair = none ∧ cond' pair ≠ some true) :
    Fitting alarms cond' := by
  intro e he
  have hfits := h e he
  obtain hsame | ⟨hnone, hne⟩ := hc e.key
  · rwa [hsame]
  · rw [hnone] at hfits
    exact AlarmEntry.fits_of_closed hfits hne

/-! ### Fewer entries -/

/-- Entries of the same pairs in the same states, some of them freed. -/
def Fewer (alarms' alarms : List AlarmEntry) : Prop := ∀ e ∈ alarms', ∃ x ∈ alarms, e.key = x.key ∧ e.state = x.state

theorem Fewer.refl (alarms : List AlarmEntry) : Fewer alarms alarms := fun e he => ⟨e, he, rfl, rfl⟩

theorem Fitting.fewer {alarms alarms' : List AlarmEntry} {cond : ChannelAddr × AlarmKind → Option Bool}
    (h : Fitting alarms cond) (hf : Fewer alarms' alarms) : Fitting alarms' cond := by
  intro e he
  obtain ⟨x, hx, hkey, hstate⟩ := hf e he
  rw [hkey]
  exact AlarmEntry.fits_of_state hstate (h x hx)

theorem State.takeReport_fewer (r : Reference) (s : State) : Fewer (s.takeReport r).alarms s.alarms := by
  cases r with
  | overflow => exact Fewer.refl _
  | entry addr kind =>
    simp only [State.takeReport, State.takeEntryReport]
    split
    · exact Fewer.refl _
    dsimp only
    split
    · exact fun e he => ⟨e, (mem_freeEntry.mp he).1, rfl, rfl⟩
    · intro e he
      obtain ⟨x, hx, -, rfl⟩ | ⟨he, -⟩ := mem_changeEntry.mp he
      · exact ⟨x, hx, rfl, rfl⟩
      · exact ⟨e, he, rfl, rfl⟩

theorem State.pickNorth_fewer (s : State) : Fewer s.pickNorth.alarms s.alarms := by
  obtain ⟨-, -, -, -, hpick⟩ | ⟨f, rest, -, hpick⟩ | ⟨f, rest, -, -, hpick⟩ | ⟨r, rest, -, -, -, hpick⟩ |
    ⟨n, rest, -, -, -, -, hpick⟩ := s.pickNorth_cases <;> rw [hpick]
  · exact Fewer.refl _
  · exact Fewer.refl _
  · exact Fewer.refl _
  · exact State.takeReport_fewer r _
  · exact Fewer.refl _

theorem State.northJoined_fewer (s : State) : Fewer s.northJoined.alarms s.alarms := by
  unfold State.northJoined
  split
  · exact s.pickNorth_fewer
  · exact Fewer.refl _

theorem State.placeReference_fewer (r : Reference) (s : State) : Fewer (s.placeReference r).alarms s.alarms := by
  unfold State.placeReference
  split
  · exact Fewer.refl _
  · exact State.northJoined_fewer _

theorem State.offerForward_fewer (f : Frame) (s : State) : Fewer (s.offerForward f).alarms s.alarms := by
  unfold State.offerForward
  split
  · exact State.northJoined_fewer _
  · exact Fewer.refl _

theorem State.offerNotice_fewer (n : Notice) (s : State) : Fewer (s.offerNotice n).alarms s.alarms := by
  unfold State.offerNotice
  split
  · exact State.northJoined_fewer _
  · exact Fewer.refl _

theorem State.takeElement_fewer (addr : ChannelAddr) (e : Element) (s : State) :
    Fewer (s.takeElement addr e).alarms s.alarms := by
  unfold State.takeElement
  split
  · split
    · exact Fewer.refl _
    · exact Fewer.refl _
    · exact Fewer.refl _
    · dsimp only
      split
      · exact State.offerNotice_fewer _ _
      · exact Fewer.refl _
  · exact Fewer.refl _

/-! ### An entry moved -/

/-- A change of a pair's entry under which every entry comes to fit a condition for the pair. -/
theorem State.changeAlarm_fitting {s : State} {cond : ChannelAddr × AlarmKind → Option Bool} (h : Fitting s.alarms cond)
    {addr : ChannelAddr} {kind : AlarmKind} (change : AlarmEntry → AlarmEntry) (hkey : ∀ x, (change x).key = x.key)
    {b : Option Bool} (hfits : ∀ x, (change x).Fits b) :
    Fitting (s.changeAlarm addr kind change).alarms (Function.update cond (addr, kind) b) := by
  refine Fitting.fewer (fun e he => ?_) (State.placeReference_fewer _ _)
  obtain ⟨x, -, hfor, rfl⟩ | ⟨he, hother⟩ := mem_changeEntry.mp he
  · rw [hkey, AlarmEntry.isFor_iff_key.mp hfor, Function.update_self]
    exact hfits x
  · rw [Function.update_of_ne fun hpair => hother (AlarmEntry.isFor_iff_key.mpr hpair)]
    exact h e he

/-- A condition changed for a pair without an entry. -/
theorem Fitting.absent {alarms : List AlarmEntry} {cond : ChannelAddr × AlarmKind → Option Bool} (h : Fitting alarms cond)
    {addr : ChannelAddr} {kind : AlarmKind} (hnone : entryAt alarms addr kind = none) (b : Option Bool) :
    Fitting alarms (Function.update cond (addr, kind) b) := by
  intro e he
  rw [Function.update_of_ne fun hpair => entryAt_none hnone e he (AlarmEntry.isFor_iff_key.mpr hpair)]
  exact h e he

theorem Fitting.at {alarms : List AlarmEntry} {cond : ChannelAddr × AlarmKind → Option Bool} (h : Fitting alarms cond)
    {addr : ChannelAddr} {kind : AlarmKind} {e : AlarmEntry} (he : entryAt alarms addr kind = some e) :
    e.Fits (cond (addr, kind)) := by
  obtain ⟨hmem, hfor⟩ := entryAt_some he
  rw [← AlarmEntry.isFor_iff_key.mp hfor]
  exact h e hmem

section Events

variable {s : State} {cond : ChannelAddr × AlarmKind → Option Bool} {addr : ChannelAddr} {kind : AlarmKind}

/-- A raise makes the condition of its pair active; an inactive one has no entry in an active state (R84, R85). -/
theorem State.raiseEntry_fitting (h : Fitting s.alarms cond) (hc : cond (addr, kind) = some false) (time : Time) (v : Value) :
    Fitting (s.raiseEntry addr kind time v).alarms (Function.update cond (addr, kind) (some true)) := by
  have hraised (x : AlarmEntry) (hx : x.state = .activeUnack) : x.Fits (some true) := by simp [AlarmEntry.Fits, hx]
  cases he : entryAt s.alarms addr kind with
  | none =>
    obtain hroom | hfull := lt_or_ge s.alarms.length Config.alarmCapacity
    · rw [State.raiseEntry_created he hroom]
      refine Fitting.fewer (fun e hmem => ?_) (State.placeReference_fewer _ _)
      obtain hmem | hmem := List.mem_append.mp hmem
      · exact h.absent he (some true) e hmem
      · rw [List.mem_singleton.mp hmem]
        show (newEntry addr kind time v s.episode).Fits (Function.update cond (addr, kind) (some true) (addr, kind))
        rw [Function.update_self]
        exact hraised _ rfl
    · rw [State.raiseEntry_lost he hfull]
      exact (h.absent he (some true)).fewer (State.placeReference_fewer _ _)
  | some e =>
    have hfits : e.state = .activeUnack ∨ e.state = .activeAck ↔ false = true := by
      have hat := h.at he
      rwa [hc] at hat
    cases hs : e.state with
    | activeUnack => exact absurd (hfits.mp (.inl hs)) Bool.false_ne_true
    | activeAck => exact absurd (hfits.mp (.inr hs)) Bool.false_ne_true
    | clearUnack =>
      rw [State.raiseEntry_reraised he hs]
      exact State.changeAlarm_fitting h (AlarmEntry.reraised time v) (fun _ => rfl) fun _ => hraised _ rfl
    | closed =>
      rw [State.raiseEntry_reopened he hs]
      exact State.changeAlarm_fitting (s := { s with episode := nextEpisode s.episode }) h
        (AlarmEntry.reopened time v s.episode) (fun _ => rfl) fun _ => hraised _ rfl

theorem State.takeRaise_fitting (h : Fitting s.alarms cond) (hc : cond (addr, kind) = some false) (time : Time) (v : Value) :
    Fitting (s.takeRaise addr kind time v).alarms (Function.update cond (addr, kind) (some true)) := by
  have halarms : (s.takeRaise addr kind time v).alarms = (s.raiseEntry addr kind time v).alarms := by
    unfold State.takeRaise State.takeRaiseNotice
    split <;> rfl
  rw [halarms]
  exact State.raiseEntry_fitting h hc time v

/-- A clear makes the condition of its pair inactive (R86). -/
theorem State.takeClear_fitting (h : Fitting s.alarms cond) (hc : cond (addr, kind) = some true) (time : Time) :
    Fitting (s.takeClear addr kind time).alarms (Function.update cond (addr, kind) (some false)) := by
  have hmoved (x : AlarmEntry) (hx : x.state = .clearUnack ∨ x.state = .closed) : x.Fits (some false) := by
    obtain hx | hx := hx <;> simp [AlarmEntry.Fits, hx]
  cases he : entryAt s.alarms addr kind with
  | none =>
    rw [State.takeClear_absent he]
    exact h.absent he (some false)
  | some e =>
    have hfits : e.state = .activeUnack ∨ e.state = .activeAck ↔ true = true := by
      have hat := h.at he
      rwa [hc] at hat
    obtain hs | hs := hfits.mpr rfl
    · rw [State.takeClear_activeUnack he hs]
      exact State.changeAlarm_fitting h (AlarmEntry.moved .clearUnack none time) (fun _ => rfl) fun _ =>
        hmoved _ (.inl rfl)
    · rw [State.takeClear_activeAck he hs]
      exact State.changeAlarm_fitting h (AlarmEntry.moved .closed (some .cleared) time) (fun _ => rfl) fun _ =>
        hmoved _ (.inr rfl)

/-- The change of a condition, taken by the Alarm Unit as the event it issues, if any (R55, R56). -/
theorem State.takeEdge_fitting (h : Fitting s.alarms cond) {before : Bool} (hc : cond (addr, kind) = some before)
    (time : Time) (v : Value) (after : Bool) :
    Fitting (s.takeAlarmEvents (edge addr kind time v before after)).alarms
      (Function.update cond (addr, kind) (some after)) := by
  have hsame : before = after → Fitting s.alarms (Function.update cond (addr, kind) (some after)) := by
    rintro rfl
    rwa [← hc, Function.update_eq_self]
  cases before <;> cases after
  · exact hsame rfl
  · exact State.takeRaise_fitting h hc time v
  · exact State.takeClear_fitting h hc time
  · exact hsame rfl

end Events

/-! ### Retirements and acknowledgements -/

/-- Entries of one address closed: they fit with no condition at all (R89). -/
theorem retired_fitting (addr : ChannelAddr) (kinds : List AlarmKind) {s : State}
    {cond : ChannelAddr × AlarmKind → Option Bool} (h : Fitting s.alarms cond) :
    Fitting (kinds.foldl (fun s kind => s.changeAlarm addr kind (AlarmEntry.moved .closed (some .retired) s.now)) s).alarms
      (fun pair => if pair.1 = addr ∧ pair.2 ∈ kinds then none else cond pair) := by
  induction kinds generalizing s cond with
  | nil => simpa using h
  | cons kind kinds ih =>
    refine (ih (State.changeAlarm_fitting (addr := addr) (kind := kind) (b := none) h
      (AlarmEntry.moved .closed (some .retired) s.now) (fun _ => rfl) fun _ => rfl)).weaken fun pair => .inl ?_
    obtain ⟨a, k⟩ := pair
    by_cases ha : a = addr <;> by_cases hk : k = kind <;> simp [Function.update, ha, hk]

theorem State.retire_fitting {s : State} (addr : ChannelAddr) {cond : ChannelAddr × AlarmKind → Option Bool}
    (h : Fitting s.alarms cond) : Fitting (s.retire addr).alarms (fun pair => if pair.1 = addr then none else cond pair) := by
  have hothers : Fitting s.alarms
      (fun pair => if pair.1 = addr ∧ pair.2 ∉ kindsOf s.alarms addr then none else cond pair) := by
    intro e he
    have hpresent : ¬ (e.key.1 = addr ∧ e.key.2 ∉ kindsOf s.alarms addr) := by
      rintro ⟨ha, hk⟩
      exact hk (mem_kindsOf.mpr (entryAt_isSome.mpr ⟨e, he, AlarmEntry.isFor_iff.mpr ⟨ha, rfl⟩⟩))
    dsimp only
    rw [if_neg hpresent]
    exact h e he
  refine (retired_fitting addr (kindsOf s.alarms addr) hothers).weaken fun pair => .inl ?_
  by_cases ha : pair.1 = addr <;> by_cases hk : pair.2 ∈ kindsOf s.alarms addr <;> simp [ha, hk]

/-- An acknowledgement changes no entry from an active state to another or back (R87). -/
theorem ackEntry_fitting {s : State} {cond : ChannelAddr × AlarmKind → Option Bool} (h : Fitting s.alarms cond)
    (addr : ChannelAddr) (kind : AlarmKind) (episode : BitVec 16) : Fitting (ackEntry addr kind episode s).1.alarms cond := by
  have hmoved (state : AlarmState) (cause : Option Cause)
      (hfits : ∀ x : AlarmEntry, x.state = state → x.Fits (cond (addr, kind))) :
      Fitting (s.changeAlarm addr kind (AlarmEntry.moved state cause s.now)).alarms cond := by
    have hchanged := State.changeAlarm_fitting (addr := addr) (kind := kind) h (AlarmEntry.moved state cause s.now)
      (fun _ => rfl) fun x => hfits _ rfl
    rwa [Function.update_eq_self] at hchanged
  unfold ackEntry
  split
  · exact h
  rename_i e he
  have hfits := h.at he
  split
  · exact h
  split
  · rename_i hs
    refine hmoved _ _ fun x hx => ?_
    cases hc : cond (addr, kind) with
    | none => rw [hc] at hfits; exact absurd (hs.symm.trans hfits) (by decide)
    | some active =>
      rw [hc] at hfits
      have hactive : active = true := hfits.mp (.inl hs)
      simp [AlarmEntry.Fits, hx, hactive]
  · rename_i hs
    refine hmoved _ _ fun x hx => AlarmEntry.fits_of_closed hx fun hc => ?_
    rw [hc] at hfits
    exact absurd (hfits.mpr rfl) (by simp [hs])
  · exact h
  · exact h

/-! ### The conditions of changed rows -/

theorem freshRow_holds (c : RowConfig) (now : Time) (kind : AlarmKind) : (freshRow c now).rt.holds kind = false := by
  cases kind <;> rfl

theorem condition_insertRow {rows : List Row} {c : RowConfig} (now : Time) (hn : rowAt rows c.addr = none)
    (pair : ChannelAddr × AlarmKind) :
    condition (insertRow (freshRow c now) rows) pair = condition rows pair ∨
      condition rows pair = none ∧ condition (insertRow (freshRow c now) rows) pair ≠ some true := by
  by_cases ha : pair.1 = c.addr
  · refine .inr ⟨by simp [condition, ha, hn], fun hc => ?_⟩
    obtain ⟨r, hr, hholds⟩ := Option.map_eq_some_iff.mp hc
    obtain rfl | hmem := mem_insertRow.mp (rowAt_mem hr)
    · exact Bool.false_ne_true ((freshRow_holds c now pair.2).symm.trans hholds)
    · exact rowAt_none.mp hn r hmem ((rowAt_addr hr).trans ha)
  · exact .inl (by rw [condition, condition, rowAt_insertRow_ne (r := freshRow c now) ha])

theorem condition_replaceRow {rows : List Row} {c : RowConfig} (now : Time) (pair : ChannelAddr × AlarmKind) :
    condition (changeRow rows c.addr (fun _ => freshRow c now)) pair = (if pair.1 = c.addr then none else condition rows pair) ∨
      (if pair.1 = c.addr then none else condition rows pair) = none ∧
        condition (changeRow rows c.addr (fun _ => freshRow c now)) pair ≠ some true := by
  by_cases ha : pair.1 = c.addr
  · refine .inr ⟨if_pos ha, fun hc => ?_⟩
    obtain ⟨r, hr, hholds⟩ := Option.map_eq_some_iff.mp hc
    obtain ⟨_, _, _, rfl⟩ | ⟨-, hne⟩ := mem_changeRow.mp (rowAt_mem hr)
    · exact Bool.false_ne_true ((freshRow_holds c now pair.2).symm.trans hholds)
    · exact hne ((rowAt_addr hr).trans ha)
  · rw [if_neg ha]
    exact .inl (by rw [condition, condition, rowAt_changeRow_ne (addr := c.addr) (change := fun _ => freshRow c now) (fun _ _ => rfl) ha])

theorem condition_deleteRow (rows : List Row) (addr : ChannelAddr) (pair : ChannelAddr × AlarmKind) :
    condition (deleteRow rows addr) pair = if pair.1 = addr then none else condition rows pair := by
  split
  · rename_i ha
    rw [condition, ha, rowAt_deleteRow_self, Option.map_none]
  · rename_i ha
    rw [condition, condition, rowAt_deleteRow_ne ha]

/-- The conditions after a record is set: the row's own are those of the record. -/
theorem condition_setRecord {rows : List Row} {row : Row} (hrow : rowAt rows row.config.addr = some row) (rt : Runtime)
    (pair : ChannelAddr × AlarmKind) :
    condition (changeRow rows row.config.addr (fun r => { r with rt })) pair =
      if pair.1 = row.config.addr then some (rt.holds pair.2) else condition rows pair := by
  split
  · rename_i ha
    rw [condition, ha, rowAt_changeRow_self (change := fun r => { r with rt }) (fun _ => id) hrow, Option.map_some]
  · rename_i ha
    rw [condition, condition, rowAt_changeRow_ne (change := fun r => { r with rt }) (fun _ => id) ha]

/-! ### Every effect but the engine's -/

theorem State.ConditionLaw.fewer {s t : State} (h : s.ConditionLaw) (hrows : t.rows = s.rows)
    (hf : Fewer t.alarms s.alarms) : t.ConditionLaw := by
  rw [State.conditionLaw_iff] at h ⊢
  rw [hrows]
  exact h.fewer hf

theorem Traffic.conditionLaw {s t : State} (h : Traffic s t) (hs : s.ConditionLaw) : t.ConditionLaw := by
  have hrows : t.rows = s.rows := (congrArg State.rows h.store :)
  cases h with
  | waiting | time | counted | armed | triggered | idled => exact hs
  | receiver port => cases port <;> exact hs
  | forward f => exact hs.fewer hrows (s.offerForward_fewer f)
  | notice n => exact hs.fewer hrows (s.offerNotice_fewer n)
  | response => exact hs.fewer hrows (State.northJoined_fewer _)
  | northCompleted =>
    refine hs.fewer hrows ?_
    unfold State.completeNorth
    split
    · exact State.pickNorth_fewer _
    · exact Fewer.refl _
  | command f => exact State.keeps_of_mask State.maskSouth (fun _ => rfl) (State.offerCommand_outside f s) hs
  | commandCompleted => exact State.keeps_of_mask State.maskSouth (fun _ => rfl) s.completeCommand_outside hs
  | acked addr kind episode =>
    rw [State.conditionLaw_iff] at hs ⊢
    rw [hrows]
    exact ackEntry_fitting hs addr kind episode
  | overflowAcked =>
    refine hs.fewer hrows ?_
    unfold ackOverflow
    split
    · exact State.placeReference_fewer _ _
    · exact Fewer.refl _
  | element addr e => exact hs.fewer hrows (s.takeElement_fewer addr e)
  | aborted => exact hs.fewer hrows (State.offerNotice_fewer _ _)

theorem State.insertConfig_conditionLaw {s : State} {c : RowConfig} (hn : rowAt s.rows c.addr = none) (h : s.ConditionLaw) :
    (s.insertConfig c).ConditionLaw := by
  rw [State.conditionLaw_iff] at h ⊢
  exact h.weaken (condition_insertRow s.now hn)

theorem State.replaceConfig_conditionLaw {s : State} (c : RowConfig) (h : s.ConditionLaw) :
    (s.replaceConfig c).ConditionLaw := by
  rw [State.conditionLaw_iff] at h ⊢
  rw [State.replaceConfig_rows]
  exact (State.retire_fitting (s := { s with rows := changeRow s.rows c.addr (fun _ => freshRow c s.now) }) c.addr h).weaken
    (condition_replaceRow s.now)

theorem State.deleteConfig_conditionLaw {s : State} (addr : ChannelAddr) (h : s.ConditionLaw) :
    (s.deleteConfig addr).ConditionLaw := by
  have hfit : Fitting s.alarms (condition s.rows) := State.conditionLaw_iff.mp h
  have hretired : Fitting (State.retire addr { s with rows := deleteRow s.rows addr }).alarms
      (condition (deleteRow s.rows addr)) :=
    (State.retire_fitting (s := { s with rows := deleteRow s.rows addr }) addr hfit).weaken
      fun pair => .inl (condition_deleteRow s.rows addr pair)
  rw [State.conditionLaw_iff, State.deleteConfig_rows]
  refine hretired.fewer ?_
  unfold State.deleteConfig State.captureRowDeleted
  split
  · exact State.offerNotice_fewer _ _
  · exact Fewer.refl _

theorem Effect.conditionLaw {s t : State} (h : Effect s t) (htables : s.TablesLaw) (hs : s.ConditionLaw) :
    t.ConditionLaw := by
  cases h with
  | traffic h => exact h.conditionLaw hs
  | probeCompleted =>
    obtain h | ⟨addr, h⟩ := s.completeProbe_outside <;> exact State.keeps_of_mask State.maskSouth (fun _ => rfl) h hs
  | created | restarted | owed => exact State.keeps_of_mask State.maskSouth (fun _ => rfl) (State.southJoined_outside _) hs
  | inserted c e he =>
    refine State.insertConfig_conditionLaw (htables.enrolled.2.2 c.addr ?_) hs
    exact List.mem_map.mpr ⟨e, List.mem_of_find?_eq_some he, addr_of_enrolAt he⟩
  | committed =>
    exact keeps_items (P := State.ConditionLaw) (ok := fun _ => True)
      (fun _ _ _ hn hu => State.insertConfig_conditionLaw hn hu) (fun _ c _ hu => State.replaceConfig_conditionLaw c hu)
      (fun _ addr hu => State.deleteConfig_conditionLaw addr hu) s.staging (fun _ _ => trivial) hs
  | staged item => unfold stageItem; dsimp only; split <;> [exact hs; split <;> exact hs]
  | failed | refused | held | settings | classReplaced | classInserted | classDeleted | released | unstaged | leased | opened
  | ended | replayed => exact hs
  | resetRuntime | resetTables => exact State.conditionLaw_iff.mpr (Fitting.nil _)

/-! ### The engine's commands (R31, R73) -/

/-- The changes of a row's four conditions taken one after another: the entries come to fit the row's new record (R20). -/
theorem State.takeChanges_fitting {s : State} {rows : List Row} {row : Row} (hrow : rowAt rows row.config.addr = some row)
    (h : Fitting s.alarms (condition rows)) (now : Time) (v : Value) (w : Worked)
    (hissued : w.issued = w.change row.config now v row.rt .stale ++ w.change row.config now v row.rt .trip ++
      w.change row.config now v row.rt .low ++ w.change row.config now v row.rt .high) :
    Fitting (s.takeAlarmEvents w.issued).alarms
      (fun pair => if pair.1 = row.config.addr then some (w.rt.holds pair.2) else condition rows pair) := by
  have hbefore (kind : AlarmKind) : condition rows (row.config.addr, kind) = some (row.rt.holds kind) := by
    rw [condition, hrow, Option.map_some]
  have hstale := State.takeEdge_fitting h (hbefore .stale) now (w.seen v .stale) (w.rt.holds .stale)
  have htrip := State.takeEdge_fitting hstale (addr := row.config.addr) (kind := .trip)
    (before := row.rt.holds .trip) (by simp [Function.update, hbefore]) now (w.seen v .trip) (w.rt.holds .trip)
  have hlow := State.takeEdge_fitting htrip (addr := row.config.addr) (kind := .low)
    (before := row.rt.holds .low) (by simp [Function.update, hbefore]) now (w.seen v .low) (w.rt.holds .low)
  have hhigh := State.takeEdge_fitting hlow (addr := row.config.addr) (kind := .high)
    (before := row.rt.holds .high) (by simp [Function.update, hbefore]) now (w.seen v .high) (w.rt.holds .high)
  have htaken : s.takeAlarmEvents w.issued =
      ((((s.takeAlarmEvents (w.change row.config now v row.rt .stale)).takeAlarmEvents
        (w.change row.config now v row.rt .trip)).takeAlarmEvents (w.change row.config now v row.rt .low)).takeAlarmEvents
        (w.change row.config now v row.rt .high)) := by
    rw [hissued]
    simp only [State.takeAlarmEvents, List.foldl_append]
  rw [htaken]
  refine hhigh.weaken fun pair => .inl ?_
  obtain ⟨a, k⟩ := pair
  by_cases ha : a = row.config.addr
  · cases k <;> simp [Function.update, ha]
  · simp [Function.update, ha]

theorem afterOffer_holds (c : RowConfig) (joined : Bool) (r : Runtime) (kind : AlarmKind) :
    (afterOffer c joined r).holds kind = r.holds kind := by
  unfold afterOffer
  split
  · split <;> cases kind <;> rfl
  · cases kind <;> rfl

/-- The offer of step 5 writes the record's conditions and moves no entry (R31). -/
theorem State.offerStep_condition {row : Row} {f : Frame} {w : Worked} {s : State}
    (hrow : rowAt s.rows row.config.addr = some row) :
    Fewer (State.offerStep row.config f w s).alarms s.alarms ∧
      ∀ pair, condition (State.offerStep row.config f w s).rows pair =
        if pair.1 = row.config.addr then some (w.rt.holds pair.2) else condition s.rows pair := by
  unfold State.offerStep
  split
  · exact ⟨Fewer.refl _, condition_setRecord hrow w.rt⟩
  · refine ⟨State.offerForward_fewer _ _, fun pair => ?_⟩
    rw [State.offerForward_rows, State.setRecord_rows, condition_setRecord hrow, afterOffer_holds]

theorem State.conditionSample_conditionLaw {s : State} {row : Row} (f : Frame)
    (hrow : rowAt s.rows row.config.addr = some row) (h : s.ConditionLaw) : (s.conditionSample row f).ConditionLaw := by
  let w := conditionRecord s.rows row.config s.now (sampleOf f) row.rt
  let latched := s.latchStep row.config w
  let offered := State.offerStep row.config f w latched
  have hlatched : rowAt latched.rows row.config.addr = some row := by simpa [latched] using hrow
  obtain ⟨hfewer, hcond⟩ : Fewer offered.alarms latched.alarms ∧ ∀ pair, condition offered.rows pair =
      if pair.1 = row.config.addr then some (w.rt.holds pair.2) else condition latched.rows pair :=
    State.offerStep_condition hlatched
  have hfit : Fitting latched.alarms (condition latched.rows) := by
    simpa [latched] using State.conditionLaw_iff.mp h
  have htaken := State.takeChanges_fitting (s := offered.takeElement (sampleOf f).addr (elementOf (sampleOf f) s.now)) hlatched
    ((hfit.fewer hfewer).fewer (State.takeElement_fewer _ _ _)) s.now (sampleOf f).value w
    (conditionRecord_issued s.rows row.config s.now (sampleOf f) row.rt)
  rw [State.conditionLaw_iff]
  refine htaken.weaken fun pair => .inl ?_
  rw [← hcond]
  show condition (State.takeAlarmEvents _ _).rows pair = _
  rw [State.takeAlarmEvents_rows, State.takeElement_rows]

theorem State.duplicateSample_conditionLaw {s : State} {row : Row} (hrow : rowAt s.rows row.config.addr = some row)
    (h : s.ConditionLaw) : (s.duplicateSample row).ConditionLaw := by
  rw [State.conditionLaw_iff] at h ⊢
  refine h.weaken fun pair => .inl ?_
  refine (condition_setRecord hrow _ pair).trans ?_
  split
  · rename_i ha
    rw [condition, ha, hrow]
    cases pair.2 <;> rfl
  · rfl

/-- An arrival keeps the law (R31); for an address without a row the rest of its work is no engine's. -/
theorem State.sampleArrived_conditionLaw {s : State} (f : Frame) (hrun : s.phase = .running) (htables : s.TablesLaw)
    (h : s.ConditionLaw) : (s.sampleArrived f).ConditionLaw := by
  cases hrow : rowAt s.rows (sampleOf f).addr with
  | none =>
    rw [State.sampleArrived_unknown hrow]
    exact ((State.unknownSample_effects hrow).keeps (P := fun s => s.TablesLaw ∧ s.ConditionLaw)
      (fun _ _ _ he hs => ⟨he.tablesLaw hs.1, he.conditionLaw hs.1 hs.2⟩) hrun ⟨htables, h⟩).2
  | some row =>
    have hfound : rowAt s.rows row.config.addr = some row := by rw [rowAt_addr hrow]; exact hrow
    by_cases hp : row.config.policy = .block
    · rwa [State.sampleArrived_block hrow hp]
    · rw [State.sampleArrived_row hrow hp]
      split
      · exact State.duplicateSample_conditionLaw hfound h
      · exact State.conditionSample_conditionLaw f hfound h

/-- A stale expiry makes a STALE active that was not: its deadline was present (R72, R73). -/
theorem State.expireStale_conditionLaw {s : State} (addr : ChannelAddr) (hrecords : s.RecordLaw) (h : s.ConditionLaw) :
    (s.expireStale addr).ConditionLaw := by
  unfold State.expireStale
  split
  · exact h
  rename_i row hrow
  split
  swap
  · exact h
  rename_i hdue
  obtain rfl : row.config.addr = addr := rowAt_addr hrow
  have hidle : row.rt.stale = false := by
    obtain ⟨-, -, -, -, hdeadline⟩ := Row.inRange_iff.mp (hrecords row (rowAt_mem hrow))
    have hsome : row.rt.staleDeadline.isSome = true := by
      cases hd : row.rt.staleDeadline with
      | none => rw [hd] at hdue; cases hdue
      | some d => rfl
    exact (hdeadline.mp hsome).2.2
  have hbefore : condition s.rows (row.config.addr, .stale) = some false := by
    rw [condition, hrow, Option.map_some, ← hidle]
    rfl
  rw [State.conditionLaw_iff] at h ⊢
  let expired : Runtime := { row.rt with stale := true, staleDeadline := none }
  have htaken := State.takeRaise_fitting (s := s.setRecord row.config.addr expired) h hbefore s.now 0
  refine htaken.weaken fun pair => .inl ?_
  rw [State.takeRaise_rows, State.setRecord_rows, condition_setRecord hrow expired]
  obtain ⟨a, k⟩ := pair
  by_cases ha : a = row.config.addr
  · cases k <;> simp [Function.update, ha, condition, hrow, expired, Runtime.holds]
  · simp [Function.update, ha]

end Sys2Proof.Machine
end

section
/-! The law between the Alarm Table and the runtime records (chapters 3 to 5). -/

namespace Sys2Proof.Machine

open Sys2Proof

/-- Settles O60: the events of an arrival carry the changes of the row's conditions to its entries one by one, a stale expiry
finds STALE inactive, and a retirement closes the entries of the record it replaces. -/
theorem conditionLawKept : Obligations.ConditionLawKept := fun _ _ htables hrecords _ _ hs ht =>
  ((Kept.of_effects (P := fun s => s.TablesLaw ∧ s.RecordLaw ∧ s.ConditionLaw)
    (fun _ _ _ h hs => ⟨h.tablesLaw hs.1, h.recordLaw hs.1 hs.2.1, h.conditionLaw hs.1 hs.2.2⟩)
    (fun s f hrun hs =>
      have hrest : (s.sampleArrived f).TablesLaw ∧ (s.sampleArrived f).RecordLaw :=
        (s.sampleArrived_effects f).keeps (P := fun s => s.TablesLaw ∧ s.RecordLaw)
          (fun _ _ _ h hs => ⟨h.tablesLaw hs.1, h.recordLaw hs.1 hs.2⟩)
          (fun _ _ _ h hs => ⟨h.tablesLaw hs.1, h.recordLaw hs.1 hs.2⟩) hrun ⟨hs.1, hs.2.1⟩
      ⟨hrest.1, hrest.2, State.sampleArrived_conditionLaw f hrun hs.1 hs.2.2⟩)
    (fun s addr hrun hs =>
      have hrest : (s.expireStale addr).TablesLaw ∧ (s.expireStale addr).RecordLaw :=
        (s.expireStale_effects addr).keeps (P := fun s => s.TablesLaw ∧ s.RecordLaw)
          (fun _ _ _ h hs => ⟨h.tablesLaw hs.1, h.recordLaw hs.1 hs.2⟩)
          (fun _ _ _ h hs => ⟨h.tablesLaw hs.1, h.recordLaw hs.1 hs.2⟩) hrun ⟨hs.1, hs.2.1⟩
      ⟨hrest.1, hrest.2, State.expireStale_conditionLaw addr hs.2.1 hs.2.2⟩)
    (fun _ _ h => h)
    (fun _ _ => ⟨State.reset_tablesLaw, by rintro r ⟨⟩, by rintro e ⟨⟩⟩) (fun _ h => h)
    (State.assertReset_keeps fun _ => rfl)
    (fun straps _ hs => ⟨hs.1.preserved straps, hs.1.fresh_inRange 0, by rintro e ⟨⟩⟩)).step
    ⟨htables, hrecords, hs⟩ ht).2.2

end Sys2Proof.Machine
end

section
/-! The statements of the steps, the pins and the Time Base, and the laws at reset (chapters 10 and 11). -/

namespace Sys2Proof.Machine

open Sys2Proof

/-! ### The pins -/

theorem State.afterPins_poweredOn (straps : Byte) (s : State) : (s.afterPins straps).poweredOn straps := by
  unfold State.poweredOn
  exact ⟨rfl, rfl, rfl, rfl, rfl, rfl, rfl, rfl, rfl, rfl, rfl, rfl, rfl, rfl, rfl, rfl, rfl, rfl, rfl, rfl, rfl, rfl, rfl,
    rfl, rfl, rfl, rfl, rfl, rfl⟩

theorem exec_powerOnReset (straps : Byte) (rstLow : Bool) (s : State) :
    exec (.powerOnReset straps rstLow) s = .next (s.powerOn straps rstLow) := by rfl

theorem exec_pinResetAssert (s : State) : exec .pinResetAssert s = .next s.assertReset := by rfl

theorem exec_pinResetRelease (preserve : Bool) (straps : Byte) (s : State) :
    exec (.pinResetRelease preserve straps) s = .next (s.releaseReset preserve straps) := by rfl

theorem exec_timeBaseIncrement (s : State) : exec .timeBaseIncrement s = .next (s.whileRunning State.incrementTime) := by rfl

theorem State.assertReset_running {s : State} (h : s.phase = .running) :
    s.assertReset = { s with phase := .pinReset, now := 0, northTx := none, southTx := .idle, northRx := .idle,
                             southRx := .idle } := if_pos h

theorem State.releaseReset_held {s : State} (h : s.phase = .powerOnHeld) (preserve : Bool) (straps : Byte) :
    s.releaseReset preserve straps = s.afterPins straps := by
  simp only [State.releaseReset, h]

theorem State.releaseReset_cleared {s : State} (h : s.phase = .pinReset) (straps : Byte) :
    s.releaseReset false straps = s.afterPins straps := by
  simp only [State.releaseReset, h, Bool.false_eq_true, if_false]

theorem State.releaseReset_preserved {s : State} (h : s.phase = .pinReset) (straps : Byte) :
    s.releaseReset true straps =
      { s.afterPins straps with rows := freshRows s.rows 0, classes := s.classes, settings := s.settings } := by
  simp only [State.releaseReset, h, if_true]

/-- While RST_N holds the part nothing but the pins does anything (R187). -/
theorem exec_held {c : Instr} {s : State} (hp : s.phase ≠ .running) (hc : isPinCommand c = false) : exec c s = .next s := by
  cases hf : frameOnLine c with
  | some r => rw [exec_frame hf, State.whileRunning_held hp]
  | none =>
    cases c
    case powerOnReset | pinResetAssert | pinResetRelease => cases hc
    case frameAbandoned | northTransmitComplete | southTransmitComplete | probeTransmitComplete | staleExpiry
      | probeWaitExpiry | holdExpiry | leaseExpiry | startSymbol | timeBaseIncrement =>
      exact congrArg Host.Outcome.next (State.whileRunning_held hp)
    all_goals cases hf

/-- The phase, the waiting commands, the node and the time, one by one, after a command of neither the pins nor the Time Base. -/
theorem exec_node_now {c : Instr} {s t : State} (hp : isPinCommand c = false) (ht : c ≠ .timeBaseIncrement)
    (h : exec c s = .next t) : t.node = s.node ∧ t.now = s.now := by
  have hfixed := exec_fixed hp ht h
  exact ⟨congrArg (·.2.2.1) hfixed, congrArg (·.2.2.2) hfixed⟩

theorem State.whileRunning_incrementTime_node (s : State) : (s.whileRunning State.incrementTime).node = s.node := by
  unfold State.whileRunning
  split <;> rfl

theorem State.assertReset_node (s : State) : s.assertReset.node = s.node := by
  unfold State.assertReset
  split <;> rfl

/-! ### Expiries before their deadlines (R185) -/

theorem reached_early {now deadline : Time} (h : (now - deadline).toInt < 0) : reached now deadline = false := by
  refine Bool.eq_false_iff.mpr fun hreached => ?_
  have := reached_iff.mp hreached
  omega

theorem State.expireStale_early {addr : ChannelAddr} {s : State}
    (h : ∀ row d, rowAt s.rows addr = some row → row.rt.staleDeadline = some d → (s.now - d).toInt < 0) :
    s.expireStale addr = s := by
  unfold State.expireStale
  cases hrow : rowAt s.rows addr with
  | none => rfl
  | some row =>
    cases hd : row.rt.staleDeadline with
    | none => simp [hd]
    | some d => simp [hd, reached_early (h row d hrow hd)]

theorem EnrolEntry.due_early {now : Time} {e : EnrolEntry} (h : ∀ d, e.deadline = some d → (now - d).toInt < 0) :
    e.due now = false := by
  unfold EnrolEntry.due
  cases hd : e.deadline with
  | none => rfl
  | some d => exact reached_early (h d hd)

theorem State.expireProbeWait_early {addr : ChannelAddr} {s : State}
    (h : ∀ e d, enrolAt s.enrol addr = some e → e.deadline = some d → e.state = .probing → (s.now - d).toInt < 0) :
    s.expireProbeWait addr = s := by
  unfold State.expireProbeWait
  cases he : enrolAt s.enrol addr with
  | none => rfl
  | some e =>
    refine if_neg fun hdue => ?_
    obtain ⟨hprobing, hdue⟩ := hdue
    rw [EnrolEntry.due_early fun d hd => h e d he hd hprobing] at hdue
    cases hdue

theorem State.expireHold_early {addr : ChannelAddr} {s : State}
    (h : ∀ e d, enrolAt s.enrol addr = some e → e.deadline = some d → e.state ≠ .probing → (s.now - d).toInt < 0) :
    s.expireHold addr = s := by
  unfold State.expireHold
  cases he : enrolAt s.enrol addr with
  | none => rfl
  | some e =>
    refine if_neg fun hdue => ?_
    obtain ⟨hheld, hdue⟩ := hdue
    rw [EnrolEntry.due_early fun d hd => h e d he hd hheld] at hdue
    cases hdue

theorem exec_leaseExpiry {s : State} (h : s.phase = .running) : exec .leaseExpiry s = .next s.expireLease := by
  show Host.Outcome.next _ = _
  rw [State.whileRunning_running h]

theorem State.expireLease_early {s : State} (h : ∀ ses, s.session = some ses → (s.now - ses.deadline).toInt < 0) :
    s.expireLease = s := by
  unfold State.expireLease
  cases hses : s.session with
  | none => rfl
  | some ses => simp [reached_early (h ses hses)]

/-! ### The statements -/

/-- Settles O1: the queue's head is what step takes. -/
theorem stepRunsFrontCommand : Obligations.StepRunsFrontCommand := by
  intro c rest s h
  unfold step
  rw [h]

/-- Settles O2: both releases come to the state fresh out of reset. -/
theorem powerOnReset : Obligations.PowerOnReset := by
  refine fun straps s => ⟨⟨s.afterPins straps, rfl, s.afterPins_poweredOn straps⟩, _, exec_powerOnReset straps true s, ?_⟩
  intro preserve later
  refine ⟨_, exec_pinResetRelease preserve later _, ?_⟩
  rw [State.releaseReset_held rfl]
  exact State.afterPins_poweredOn later _

/-- Settles O3: the assertion, what is ignored until the release, and the two releases. -/
theorem pinReset : Obligations.PinReset := by
  refine fun s => ⟨fun hrun => ⟨_, exec_pinResetAssert s, ?_⟩, fun hheld c hc => exec_held hheld hc, fun hreset straps => ⟨?_, ?_⟩⟩
  · rw [State.assertReset_running hrun]
    exact ⟨rfl, rfl, rfl, rfl, rfl, rfl, rfl, rfl, State.tripLine_released (by rintro ⟨⟩),
      State.alertLine_released (by rintro ⟨⟩), rfl, rfl, rfl⟩
  · refine ⟨_, exec_pinResetRelease false straps s, ?_⟩
    rw [State.releaseReset_cleared hreset]
    exact s.afterPins_poweredOn straps
  · refine ⟨_, exec_pinResetRelease true straps s, ?_⟩
    rw [State.releaseReset_preserved hreset]
    exact ⟨s.afterPins_poweredOn straps, rfl, rfl, rfl⟩

/-- Settles O4: the pins latch the straps, every other command is fixed in the node, and every builder takes it as Source. -/
theorem nodeAddressHeld : Obligations.NodeAddressHeld := by
  refine ⟨fun straps s => ⟨_, exec_powerOnReset straps false s, rfl⟩, fun preserve straps s hheld => ?_, fun c s t hc ht => ?_,
    fun s => ?_, fun _ _ _ _ _ _ _ _ _ _ _ _ _ => ⟨rfl, rfl, rfl, rfl, rfl, rfl⟩⟩
  · refine ⟨_, exec_pinResetRelease preserve straps s, ?_⟩
    cases hp : s.phase with
    | running => exact absurd hp hheld
    | powerOnHeld =>
      rw [State.releaseReset_held hp]
      rfl
    | pinReset =>
      cases preserve
      · rw [State.releaseReset_cleared hp]
        rfl
      · rw [State.releaseReset_preserved hp]
        rfl
  · by_cases htime : c = .timeBaseIncrement
    · subst htime
      cases ht
      exact s.whileRunning_incrementTime_node
    · obtain hc | rfl := hc
      · exact (exec_node_now hc htime ht).1
      · cases ht
        exact s.assertReset_node
  · have hlow : s.node = 0x00 ↔ s.node.toNat = 0 := BitVec.toNat_inj.symm
    have hhigh : s.node = 0xFF ↔ s.node.toNat = 255 := BitVec.toNat_inj.symm
    have hmax : s.node.toNat < 256 := s.node.isLt
    unfold State.ownAddress
    simp only [hlow, hhigh]
    split
    · rw [if_neg (by omega)]
    · rw [if_pos (by omega)]

/-- Settles O5: the increment is the counter's successor modulo 2^32. -/
theorem timeBaseIncrement : Obligations.TimeBaseIncrement := by
  refine ⟨fun s hrun => ?_, fun s hheld => exec_held hheld rfl, fun c s t hp ht h => (exec_node_now hp ht h).2⟩
  have hnext : s.now + 1 = BitVec.ofNat 32 ((s.now.toNat + 1) % 2 ^ 32) := by
    apply BitVec.eq_of_toNat_eq
    simp
  rw [exec_timeBaseIncrement, State.whileRunning_running hrun, ← hnext]
  rfl

/-- Settles O26: with no deadline reached each expiry's test fails. -/
theorem expiryNotDue : Obligations.ExpiryNotDue := by
  refine ⟨fun addr s h => ?_, fun addr s h => ?_, fun addr s h => ?_, fun s h => ?_⟩
  · by_cases hrun : s.phase = .running
    · rw [exec_staleExpiry hrun, State.expireStale_early h]
    · exact exec_held hrun rfl
  · by_cases hrun : s.phase = .running
    · rw [exec_probeWaitExpiry hrun, State.expireProbeWait_early h]
    · exact exec_held hrun rfl
  · by_cases hrun : s.phase = .running
    · rw [exec_holdExpiry hrun, State.expireHold_early h]
    · exact exec_held hrun rfl
  · by_cases hrun : s.phase = .running
    · rw [exec_leaseExpiry hrun, State.expireLease_early h]
    · exact exec_held hrun rfl

/-- Settles O50: at reset every table, list and queue is empty. -/
theorem lawsHoldAtReset : Obligations.LawsHoldAtReset :=
  ⟨State.reset_sessionLaw, Capture.initial_lawful, State.queuesEmpty_queueLaw rfl rfl rfl rfl rfl rfl, State.reset_tablesLaw,
    State.reset_enrolLaw, by rintro r ⟨⟩, by rintro _ r ⟨⟩, State.reset_reportLaw.1, State.reset_reportLaw.2,
    fun _ _ => ⟨rfl, by rintro e ⟨⟩⟩, by rintro e ⟨⟩⟩

end Sys2Proof.Machine
end

section
/-! SUPPORT. The link (chapter 10): the first check of R171 that a frame fails, a frame's bytes as its fields, and the Check of a
changed byte. -/

namespace Sys2Proof.Machine

open Sys2Proof

/-! ### The checks of R171, one after another -/

section Validate

variable {port : Port} {bytes : List Byte} {kind : FrameKind}

/-- The length of a complete frame lies between 6 and 54 bytes (R171). -/
def Sized (bytes : List Byte) : Prop := 6 ≤ bytes.length ∧ bytes.length ≤ 54

/-- The Check of a frame of a right length agrees with its bytes (R171). -/
def Checked (bytes : List Byte) : Prop :=
  Sized bytes ∧ crc16 (bytes.take (bytes.length - 2)) = halfAt bytes (bytes.length - 2)

/-- The Length field of a frame whose Check agrees counts its payload (R171). -/
def Measured (bytes : List Byte) : Prop :=
  Checked bytes ∧ (byteAt bytes 3).toNat ≤ 48 ∧ (byteAt bytes 3).toNat = bytes.length - 6

theorem Sized.held (h : Sized bytes) : bytes.take Config.frameBytesMax = bytes := List.take_of_length_le h.2

theorem validate_not_sized (held : List Byte) (h : ¬ Sized bytes) : validate port held bytes.length = .error .length := by
  unfold validate
  refine if_pos ?_
  show bytes.length < 6 ∨ 54 < bytes.length
  unfold Sized at h
  omega

/-- A frame of a right length comes to its Check. -/
theorem validate_sized (h : Sized bytes) :
    ¬ (bytes.length < 6 ∨ Config.frameBytesMax < bytes.length) := by
  show ¬ (bytes.length < 6 ∨ 54 < bytes.length)
  unfold Sized at h
  omega

theorem validate_not_checked (hs : Sized bytes) (h : ¬ Checked bytes) : validate port bytes bytes.length = .error .check := by
  unfold validate
  rw [if_neg (validate_sized hs), if_pos fun hc => h ⟨hs, hc⟩]

theorem validate_not_measured (hc : Checked bytes) (h : ¬ Measured bytes) :
    validate port bytes bytes.length = .error .length := by
  unfold validate
  rw [if_neg (validate_sized hc.1), if_neg (not_not.mpr hc.2), if_pos]
  by_contra hn
  obtain ⟨hmax, hcount⟩ := not_or.mp hn
  exact h ⟨hc, not_lt.mp hmax, not_not.mp hcount⟩

/-- A measured frame of no known kind (R171, R172). -/
theorem validate_unknown (h : Measured bytes) (hk : frameKindOf (byteAt bytes 0) = none) :
    validate port bytes bytes.length = .error .kind := by
  obtain ⟨hc, hmax, hcount⟩ := h
  have hfits : ¬ (Config.lengthMax < (byteAt bytes 3).toNat ∨ (byteAt bytes 3).toNat ≠ bytes.length - 6) :=
    not_or.mpr ⟨not_lt.mpr hmax, not_not.mpr hcount⟩
  unfold validate
  rw [if_neg (validate_sized hc.1), if_neg (not_not.mpr hc.2), if_neg hfits, hk]

/-- A measured frame of a known kind is decided by its port and its length (R171, R172). -/
theorem validate_known (h : Measured bytes) (hk : frameKindOf (byteAt bytes 0) = some kind) :
    validate port bytes bytes.length =
      if arrivesOn kind ≠ port then .error .misdirected
      else if lengthAllowed kind (bytes.length - 6) = false then .error .length
      else .ok { kind, dest := byteAt bytes 1, source := byteAt bytes 2,
                 payload := (bytes.take (bytes.length - 2)).drop 4, check := halfAt bytes (bytes.length - 2) } := by
  obtain ⟨hc, hmax, hcount⟩ := h
  have hfits : ¬ (Config.lengthMax < (byteAt bytes 3).toNat ∨ (byteAt bytes 3).toNat ≠ bytes.length - 6) :=
    not_or.mpr ⟨not_lt.mpr hmax, not_not.mpr hcount⟩
  unfold validate
  rw [if_neg (validate_sized hc.1), if_neg (not_not.mpr hc.2), if_neg hfits, hk, hcount]

/-- What passes every check is measured (R171). -/
theorem measured_of_validate {f : Frame} (h : validate port bytes bytes.length = .ok f) : Measured bytes := by
  by_cases hs : Sized bytes
  · by_cases hc : Checked bytes
    · by_cases hm : Measured bytes
      · exact hm
      · rw [validate_not_measured hc hm] at h
        cases h
    · rw [validate_not_checked hs hc] at h
      cases h
  · rw [validate_not_sized bytes hs] at h
    cases h

/-- A frame that fails a check is discarded and counted in that check's counter (R171). -/
theorem exec_invalidFrame {s : State} {e : FrameError} (ha : s.accepts port bytes)
    (h : validate port (bytes.take Config.frameBytesMax) bytes.length = .error e) :
    exec (.invalidFrame port bytes) s = .next ((s.setReceiver port .idle).countPort port (PortCounters.addError e)) := by
  rw [exec_frame rfl, State.whileRunning_running ha.1, State.receive_accepts ha]
  unfold State.frameComplete
  rw [h]

end Validate

/-! ### A frame's bytes -/

theorem frameKindOf_some {b : Byte} {k : FrameKind} (h : frameKindOf b = some k) : k.code = b := by
  unfold frameKindOf at h
  split at h <;> cases h <;> (rename_i hb; exact BitVec.eq_of_toNat_eq hb.symm)

theorem drop_length_sub_two {bs : List Byte} (h : 2 ≤ bs.length) :
    bs.drop (bs.length - 2) = [byteAt bs (bs.length - 2), byteAt bs (bs.length - 2 + 1)] := by
  have hfirst : bs.length - 2 < bs.length := by omega
  have hsecond : bs.length - 2 + 1 < bs.length := by omega
  have hend : bs.length - 2 + 1 + 1 = bs.length := by omega
  rw [List.drop_eq_getElem_cons hfirst, List.drop_eq_getElem_cons hsecond, hend, List.drop_length]
  simp [byteAt, List.getD_eq_getElem?_getD, hfirst, hsecond]

/-- The last two bytes are the frame's Check (R178). -/
theorem take_append_check {bs : List Byte} (h : 2 ≤ bs.length) :
    bs.take (bs.length - 2) ++ be16 (halfAt bs (bs.length - 2)) = bs := by
  rw [be16_halfAt, ← drop_length_sub_two h, List.take_append_drop]

/-- The bytes before the Check of a measured frame are the header of its fields and the payload (R178). -/
theorem coveredBytes_of_measured {bytes : List Byte} {kind : FrameKind} (h : Measured bytes)
    (hk : frameKindOf (byteAt bytes 0) = some kind) :
    coveredBytes kind (byteAt bytes 1) (byteAt bytes 2) ((bytes.take (bytes.length - 2)).drop 4) =
      bytes.take (bytes.length - 2) := by
  obtain ⟨⟨⟨hlow, -⟩, -⟩, -, hcount⟩ := h
  have hcode := frameKindOf_some hk
  have hpayload : ((bytes.take (bytes.length - 2)).drop 4).length = bytes.length - 6 := by
    rw [List.length_drop, List.length_take]
    omega
  have hlength : byteOf ((bytes.take (bytes.length - 2)).drop 4).length = byteAt bytes 3 := by
    rw [hpayload, ← hcount]
    exact BitVec.ofNat_toNat ..
  unfold coveredBytes
  rw [hlength, hcode]
  match bytes, hlow with
  | a :: b :: c :: d :: e :: f :: rest, _ => rfl

theorem Frame.bytes_buildFrame (kind : FrameKind) (dest source : Byte) (payload : List Byte) :
    (buildFrame kind dest source payload).bytes =
      coveredBytes kind dest source payload ++ be16 (crc16 (coveredBytes kind dest source payload)) := by
  simp only [Frame.bytes, buildFrame]

/-! ### One changed byte -/

theorem byteAt_set_self {bs : List Byte} {i : Nat} {b : Byte} (h : i < bs.length) : byteAt (bs.set i b) i = b := by
  simp [byteAt, List.getD_eq_getElem?_getD, h]

theorem byteAt_set_ne {bs : List Byte} {i j : Nat} {b : Byte} (h : j ≠ i) : byteAt (bs.set i b) j = byteAt bs j := by
  simp [byteAt, List.getD_eq_getElem?_getD, List.getElem?_set_ne (Ne.symm h)]

theorem halfAt_inj {bs bs' : List Byte} {i : Nat} (h : halfAt bs i = halfAt bs' i) :
    byteAt bs i = byteAt bs' i ∧ byteAt bs (i + 1) = byteAt bs' (i + 1) := by
  have hbytes := congrArg be16 h
  rw [be16_halfAt, be16_halfAt] at hbytes
  obtain ⟨hfirst, hrest⟩ := List.cons.inj hbytes
  exact ⟨hfirst, (List.cons.inj hrest).1⟩

/-- A byte changed in a frame whose Check agrees makes it disagree: the byte is either among those the Check covers or one of
the Check's own (R170). -/
theorem not_checked_set {bytes : List Byte} {i : Nat} {b : Byte} (h : Checked bytes) (hi : i < bytes.length)
    (hb : b ≠ byteAt bytes i) : ¬ Checked (bytes.set i b) := by
  rintro ⟨-, hcheck⟩
  obtain ⟨⟨hlow, -⟩, hbefore⟩ := h
  rw [List.length_set] at hcheck
  by_cases hcovered : i < bytes.length - 2
  · have hhalf : halfAt (bytes.set i b) (bytes.length - 2) = halfAt bytes (bytes.length - 2) := by
      unfold halfAt
      rw [byteAt_set_ne (by omega), byteAt_set_ne (by omega)]
    rw [hhalf, ← hbefore, List.take_set] at hcheck
    refine crc16_set_ne (by rw [List.length_take]; omega) ?_ hcheck
    rw [List.getElem_take]
    simpa [byteAt, List.getD_eq_getElem?_getD, hi] using hb
  · rw [List.take_set_of_le (by omega), hbefore] at hcheck
    obtain ⟨hfirst, hsecond⟩ := halfAt_inj hcheck
    obtain rfl | rfl : i = bytes.length - 2 ∨ i = bytes.length - 2 + 1 := by omega
    · exact hb ((byteAt_set_self hi).symm.trans hfirst.symm)
    · exact hb ((byteAt_set_self hi).symm.trans hsecond.symm)

theorem checked_built (kind : FrameKind) (dest source : Byte) {payload : List Byte}
    (h : lengthAllowed kind payload.length = true) : Checked (buildFrame kind dest source payload).bytes :=
  (measured_of_validate (validate_built kind dest source payload h)).1

/-! ### The picks, by what waits (R162, R163) -/

section Pick

variable {s : State}

theorem State.pickNorth_noTurn (h : s.guardCount ≠ 8 ∨ s.forwardQ = []) : s.pickNorth = s.pickResponse := by
  refine if_neg fun hturn => ?_
  obtain ⟨hguard, hforward⟩ := hturn
  exact h.elim (fun hn => hn hguard) hforward

theorem State.pickNorth_turn {f : Frame} {rest : List Frame} (h : s.guardCount = 8) (hq : s.forwardQ = f :: rest) :
    s.pickNorth = { s with forwardQ := rest, guardCount := 0, northTx := some f } := by
  have hturn : s.pickNorth = s.pickForward := if_pos ⟨h, by rw [hq]; exact List.cons_ne_nil f rest⟩
  rw [hturn]
  unfold State.pickForward
  rw [hq]

/-- With nothing above it the Forward Queue head is picked, at its turn or below the others (R162). -/
theorem State.pickNorth_forward {f : Frame} {rest : List Frame} (hresponse : s.responseQ = []) (hreport : s.reportQ = [])
    (hnotice : s.noticeQ = []) (hq : s.forwardQ = f :: rest) :
    s.pickNorth = { s with forwardQ := rest, guardCount := 0, northTx := some f } := by
  by_cases hguard : s.guardCount = 8
  · exact State.pickNorth_turn hguard hq
  · rw [State.pickNorth_noTurn (.inl hguard)]
    unfold State.pickResponse State.pickReport State.pickNotice State.pickForward
    rw [hresponse]
    simp only [hreport, hnotice, hq]

theorem State.guardAfter_eq : s.guardAfter = if s.forwardQ = [] then s.guardCount else s.guardCount + 1 := by
  unfold State.guardAfter
  simp only [List.isEmpty_iff]

theorem exec_northTransmitComplete (h : s.phase = .running) (htx : s.northTx ≠ none) :
    exec .northTransmitComplete s = .next (State.pickNorth { s with northTx := none }) := by
  show Host.Outcome.next _ = _
  rw [State.whileRunning_running h]
  unfold State.completeNorth
  rw [if_pos (Option.isSome_iff_ne_none.mpr htx)]

end Pick

/-! ### A joining with nothing waiting (R162, R166) -/

theorem State.offerForward_idle {s : State} (f : Frame) (hrun : s.phase = .running) (hlaw : s.NorthLaw)
    (hidle : s.northTx = none) : s.offerForward f = { s with northTx := some f, guardCount := 0 } := by
  obtain ⟨hresponse, hreport, hnotice, hforward⟩ := hlaw hrun hidle
  rw [State.offerForward_room f (by rw [hforward]; decide)]
  refine (State.northJoined_idle (by exact hidle)).trans ((State.pickNorth_forward
    (s := { s with forwardQ := s.forwardQ ++ [f] }) (f := f) (rest := []) hresponse hreport hnotice ?_).trans ?_)
  · simp [hforward]
  · simp only [hforward]

theorem State.offerForward_waits {s : State} (f : Frame) (hroom : s.forwardQ.length < 64) (hbusy : s.northTx ≠ none) :
    s.offerForward f = { s with forwardQ := s.forwardQ ++ [f] } := by
  obtain ⟨g, hg⟩ := Option.ne_none_iff_exists'.mp hbusy
  rw [State.offerForward_room f hroom]
  exact State.northJoined_busy (f := g) hg

theorem State.offerCommand_idle {s : State} (f : Frame) (hrun : s.phase = .running) (hlaw : s.SouthLaw)
    (hidle : s.southTx = .idle) : s.offerCommand f = { s with southTx := .command f } := by
  obtain ⟨hcommand, -⟩ := hlaw hrun hidle
  unfold State.offerCommand
  rw [if_pos (by rw [hcommand]; decide)]
  refine (State.southJoined_idle (by exact hidle)).trans ?_
  unfold State.pickSouth
  simp only [hcommand, List.nil_append]

theorem State.offerCommand_waits {s : State} (f : Frame) (hroom : s.commandQ.length < 16) (hbusy : s.southTx ≠ .idle) :
    s.offerCommand f = { s with commandQ := s.commandQ ++ [f] } := by
  unfold State.offerCommand
  rw [if_pos (by exact hroom)]
  exact State.southJoined_busy (by exact hbusy)

theorem State.offerCommand_full {s : State} (f : Frame) (hfull : 16 ≤ s.commandQ.length) :
    s.offerCommand f =
      { s with partCounters := { s.partCounters with commandDrops := s.partCounters.commandDrops + 1 } } :=
  if_neg (not_lt.mpr hfull)

/-! ### Transit frames (R173, R174) -/

theorem exec_northboundTransit {kind : NorthKind} {dest source : Byte} {payload : List Byte} {s : State}
    (h : lengthAllowed (northFrameKind kind) payload.length = true)
    (ha : s.accepts .south (buildFrame (northFrameKind kind) dest source payload).bytes) :
    exec (.northboundTransit kind dest source payload) s =
      .next ((s.received .south).offerForward (buildFrame (northFrameKind kind) dest source payload)) := by
  have hport : arrivesOn (northFrameKind kind) = .south := by cases kind <;> rfl
  rw [exec_frame rfl, State.whileRunning_running ha.1, ← hport, State.receive_built h (by rwa [hport]), hport]
  cases kind <;> rfl

theorem exec_southboundTransit {kind : SouthKind} {dest source : Byte} {payload : List Byte} {s : State}
    (h : lengthAllowed (southFrameKind kind) payload.length = true)
    (ha : s.accepts .north (buildFrame (southFrameKind kind) dest source payload).bytes) :
    exec (.southboundTransit kind dest source payload) s =
      .next (State.routeNorth (buildFrame (southFrameKind kind) dest source payload) (s.received .north)) := by
  have hport : arrivesOn (southFrameKind kind) = .north := by cases kind <;> rfl
  rw [exec_frame rfl, State.whileRunning_running ha.1, ← hport, State.receive_built h (by rwa [hport]), hport]
  rfl

/-- A COMMAND or PROBE frame to the own address is discarded (R174). -/
theorem State.routeNorth_own {kind : SouthKind} {dest source : Byte} {payload : List Byte} {s : State}
    (hkind : kind ≠ .mgmtReq) (hown : s.ownAddress = some dest) :
    s.routeNorth (buildFrame (southFrameKind kind) dest source payload) = s := by
  cases kind with
  | mgmtReq => exact absurd rfl hkind
  | command | probe => exact if_pos hown

/-- A frame for another node is offered to the Command Queue (R174). -/
theorem State.routeNorth_other {kind : SouthKind} {dest source : Byte} {payload : List Byte} {s : State}
    (hown : s.ownAddress ≠ some dest) (hbroadcast : kind = .mgmtReq → dest ≠ 0xFF) :
    s.routeNorth (buildFrame (southFrameKind kind) dest source payload) =
      s.offerCommand (buildFrame (southFrameKind kind) dest source payload) := by
  cases kind with
  | mgmtReq => exact (if_neg hown).trans (if_neg (hbroadcast rfl))
  | command | probe => exact if_neg hown

end Sys2Proof.Machine
end

section
/-! The statements of the link and of the transit queues (chapters 9 and 10). -/

namespace Sys2Proof.Machine

open Sys2Proof

/-- Settles O6: the receiver's bytes after a start symbol, and a frame command as the completion of its bytes. -/
theorem receiverSymbols : Obligations.ReceiverSymbols := by
  intro port s hrun
  have hstart (data : List Byte) : exec (.startSymbol port data) s = .next (s.takeStart port data) :=
    congrArg Host.Outcome.next (State.whileRunning_running hrun)
  refine ⟨fun data hidle => ?_, fun data held n hframe => ⟨?_, rfl⟩, fun c bytes hline ha => ?_⟩
  · rw [hstart]
    unfold State.takeStart
    rw [Receiver.takeBytes_fresh]
    simp only [hidle]
    rfl
  · rw [hstart]
    unfold State.takeStart
    rw [Receiver.takeBytes_fresh]
    simp only [hframe]
    rfl
  · rw [exec_frame hline, State.whileRunning_running hrun, State.receive_accepts ha]
    rfl

/-- Settles O7: one check after another decides the counter, and R172's table is read off the model's. -/
theorem invalidFrameCounted : Obligations.InvalidFrameCounted := by
  refine ⟨?counted, ?codes, frameKindOf_code, ?ports, fun n => ?lengths⟩
  case counted =>
    intro port bytes s ha n counted lengthError sized checked measured
    refine ⟨fun hs => ?_, fun hs hc => ?_, fun hc hm => ?_, fun hm hk => ?_, fun kind hm hk hport => ?_,
      fun kind hm hk hport hlen => ?_⟩
    · exact exec_invalidFrame ha (validate_not_sized _ hs)
    · exact exec_invalidFrame ha (by rw [Sized.held hs]; exact validate_not_checked hs hc)
    · exact exec_invalidFrame ha (by rw [Sized.held hc.1]; exact validate_not_measured hc hm)
    · exact exec_invalidFrame ha (by rw [Sized.held hm.1.1]; exact validate_unknown hm hk)
    · exact exec_invalidFrame ha (e := .misdirected)
        (by rw [Sized.held hm.1.1, validate_known hm hk]; exact if_pos hport)
    · exact exec_invalidFrame ha (e := .length)
        (by rw [Sized.held hm.1.1, validate_known hm hk]; exact (if_neg (not_not.mpr hport)).trans (if_pos hlen))
  case codes =>
    refine ⟨rfl, rfl, rfl, rfl, rfl, rfl, rfl, rfl, rfl, fun code hcode => ?_⟩
    refine Option.eq_none_iff_forall_ne_some.mpr fun kind hk => ?_
    have hcodes := frameKindOf_some hk
    obtain hzero | hbig := hcode
    · rw [hzero] at hcodes
      cases kind <;> exact absurd hcodes (by decide)
    · rw [← hcodes] at hbig
      cases kind <;> exact absurd hbig (by decide)
  case ports => exact ⟨rfl, rfl, rfl, rfl, rfl, rfl, rfl, rfl, rfl⟩
  case lengths => simp [lengthAllowed]

/-- Settles O8: the Check's register bit by bit; the last line is the check value that R170 gives. -/
theorem checkBitByBit : Obligations.CheckBitByBit := by
  refine ⟨rfl, fun bs b => ?_, fun reg bit => ?_, fun kind dest source payload => ?_, by decide +kernel⟩
  · exact List.foldl_append.trans rfl
  · have hmsb : reg.msb = reg.getLsbD 15 := BitVec.msb_eq_getLsbD_last reg
    unfold crcBit
    rw [hmsb]
  · intro covered
    have hcovered : coveredBytes kind dest source payload = covered := rfl
    rw [Frame.bytes_buildFrame, hcovered, be16]

/-- Settles O9: a built frame is read back, and bytes that pass are those of the frame they are read as. -/
theorem frameReadBack : Obligations.FrameReadBack := by
  intro port bytes f
  constructor
  · intro h
    have hm := measured_of_validate h
    obtain ⟨kind, hk⟩ : ∃ kind, frameKindOf (byteAt bytes 0) = some kind := by
      refine Option.ne_none_iff_exists'.mp fun hnone => ?_
      rw [validate_unknown hm hnone] at h
      cases h
    rw [validate_known hm hk] at h
    split at h
    · cases h
    rename_i hport
    split at h
    · cases h
    rename_i hlen
    cases h
    have hcovered := coveredBytes_of_measured hm hk
    have hpayload : ((bytes.take (bytes.length - 2)).drop 4).length = bytes.length - 6 := by
      rw [List.length_drop, List.length_take]
      omega
    refine ⟨?_, ?_, not_not.mp hport, ?_⟩
    · exact (congrArg (· ++ be16 (halfAt bytes (bytes.length - 2))) hcovered).trans
        (take_append_check (Nat.le_trans (by decide) hm.1.1.1))
    · unfold buildFrame
      dsimp only
      rw [hcovered, hm.1.2]
    · dsimp only
      rw [hpayload]
      exact Bool.eq_true_of_not_eq_false hlen
  · rintro ⟨rfl, hbuilt, rfl, hlen⟩
    have hread := validate_built f.kind f.dest f.source f.payload hlen
    rwa [← hbuilt] at hread

/-- Settles O10: the changed byte is covered by the Check or is its own, and the lengths stay as they are. -/
theorem oneByteErrorFound : Obligations.OneByteErrorFound := by
  intro kind dest source payload i b hlen bytes hi hb s ha
  have hchecked : Checked bytes := checked_built kind dest source hlen
  have hsized : Sized (bytes.set i b) := by
    unfold Sized
    rw [List.length_set]
    exact hchecked.1
  refine exec_invalidFrame (e := .check) ha ?_
  rw [hsized.held]
  exact validate_not_checked hsized (not_checked_set hchecked hi hb)

/-- Settles O11: what the Router offers, and each offer's three outcomes. -/
theorem transitQueued : Obligations.TransitQueued := by
  constructor
  · intro kind dest source payload s f u hlen ha
    refine ⟨fun hroom hbusy => ?_, fun hlaw hidle => ?_, fun hfull => ?_⟩
    · rw [exec_northboundTransit hlen ha, State.offerForward_waits _ (by simpa using hroom) (by simpa using hbusy)]
      simp only [State.received_forwardQ, u, f]
    · rw [exec_northboundTransit hlen ha, State.offerForward_idle (s := u) _ (by simpa [u] using ha.1) hlaw
      (by simpa [u] using hidle)]
    · rw [exec_northboundTransit hlen ha, State.offerForward_full _ (by rw [State.received_forwardQ]; exact hfull)]
      rfl
  · intro kind dest source payload s f u hlen ha
    refine ⟨fun hkind hown => ?_, fun hown hbroadcast => ⟨fun hroom hbusy => ?_, fun hlaw hidle => ?_, fun hfull => ?_⟩⟩
    · rw [exec_southboundTransit hlen ha, State.routeNorth_own hkind (by rwa [State.received_ownAddress])]
    · rw [exec_southboundTransit hlen ha, State.routeNorth_other (by rwa [State.received_ownAddress]) hbroadcast,
        State.offerCommand_waits _ (by simpa using hroom) (by simpa using hbusy)]
      simp only [State.received_commandQ, u, f]
    · rw [exec_southboundTransit hlen ha, State.routeNorth_other (by rwa [State.received_ownAddress]) hbroadcast,
        State.offerCommand_idle (s := u) _ (by simpa [u] using ha.1) hlaw (by simpa [u] using hidle)]
    · rw [exec_southboundTransit hlen ha, State.routeNorth_other (by rwa [State.received_ownAddress]) hbroadcast,
        State.offerCommand_full _ (by simpa using hfull)]

/-- Settles O12: the pick by what waits, a report built as its entry stands. -/
theorem northPick : Obligations.NorthPick := by
  intro s hrun htx guard noTurn
  rw [exec_northTransmitComplete hrun htx]
  refine ⟨fun hresponse hreport hnotice hforward => ?_, fun f rest hturn hq => ?_, fun f rest hn hq => ?_,
    fun addr kind rest e hn hresponse hq he => ?_, fun rest hn hresponse hq => ?_, fun n rest hn hresponse hreport hq => ?_,
    fun f rest hresponse hreport hnotice hq => ?_⟩
  · rw [State.pickNorth_noTurn (s := { s with northTx := none }) (.inr hforward)]
    simp only [State.pickResponse, State.pickReport, State.pickNotice, State.pickForward, hresponse, hreport, hnotice,
      hforward]
  · rw [State.pickNorth_turn (s := { s with northTx := none }) hturn hq]
  · rw [State.pickNorth_noTurn (s := { s with northTx := none }) hn]
    simp only [State.pickResponse, hq, State.guardAfter_eq, guard]
  · rw [State.pickNorth_noTurn (s := { s with northTx := none }) hn]
    simp only [State.pickResponse, State.pickReport, State.takeReport, State.takeEntryReport, hresponse, hq, he,
      State.guardAfter_eq, guard]
  · rw [State.pickNorth_noTurn (s := { s with northTx := none }) hn]
    simp only [State.pickResponse, State.pickReport, State.takeReport, State.takeOverflowReport, hresponse, hq,
      State.guardAfter_eq, guard]
  · rw [State.pickNorth_noTurn (s := { s with northTx := none }) hn]
    simp only [State.pickResponse, State.pickReport, State.pickNotice, hresponse, hreport, hq, State.guardAfter_eq, guard]
  · rw [State.pickNorth_forward (s := { s with northTx := none }) hresponse hreport hnotice hq]

end Sys2Proof.Machine
end

section
/-! SUPPORT. The fields of a payload or image at their offsets, the presence bits, and the codes read back (R178 to R181). -/

namespace Sys2Proof.Machine

open Sys2Proof

/-! ### Flags and presence bits (R179) -/

/-- Bit i of a flags byte is the i-th of its bits; the bits past them are 0. -/
theorem flagByte_getLsbD (bits : List Bool) {i : Nat} (hi : i < 8) : (flagByte bits).getLsbD i = bits.getD i false := by
  induction bits generalizing i with
  | nil => simp [flagByte]
  | cons b bits ih =>
    have hcons : flagByte (b :: bits) = (flagByte bits <<< 1) ||| (if b then 1#8 else 0#8) := rfl
    rw [hcons, BitVec.getLsbD_or, BitVec.getLsbD_shiftLeft]
    cases i with
    | zero => cases b <;> rfl
    | succ i =>
      have hlow : (if b then 1#8 else 0#8).getLsbD (i + 1) = false := by
        cases b <;> simp [BitVec.getLsbD_one]
      rw [hlow, Nat.add_sub_cancel, ih (by omega)]
      simp [hi]

/-- A mask that misses every assigned bit finds nothing in a flags byte. -/
theorem flagByte_and_eq_zero (bits : List Bool) {mask : Byte} (h : ∀ i < bits.length, mask.getLsbD i = false) :
    flagByte bits &&& mask = 0 := by
  refine BitVec.eq_of_getLsbD_eq fun i hi => ?_
  rw [BitVec.getLsbD_and, flagByte_getLsbD bits hi]
  obtain hlt | hge := lt_or_ge i bits.length
  · simp [h i hlt]
  · rw [List.getD_eq_default _ _ hge]
    simp

theorem halfAt_of_bytes {bs : List Byte} {i : Nat} {w : BitVec 16} (hhigh : byteAt bs i = w.extractLsb' 8 8)
    (hlow : byteAt bs (i + 1) = w.extractLsb' 0 8) : halfAt bs i = w := by
  rw [halfAt, hhigh, hlow, half_append]

theorem quadAt_of_bytes {bs : List Byte} {i : Nat} {w : BitVec 32} (hfirst : byteAt bs i = w.extractLsb' 24 8)
    (hsecond : byteAt bs (i + 1) = w.extractLsb' 16 8) (hthird : byteAt bs (i + 2) = w.extractLsb' 8 8)
    (hlast : byteAt bs (i + 3) = w.extractLsb' 0 8) : halfAt bs i ++ halfAt bs (i + 2) = w := by
  rw [halfAt, halfAt, hfirst, hsecond, hthird, hlast, quad_append]

/-- The cause byte of an alarm image: the cause below, report owed in the top bit (R181). -/
theorem causeByte_fields (cause : Option Cause) (owed : Bool) :
    (causeCode cause ||| (if owed then 0x80#8 else 0x00#8)) &&& 0x7F = causeCode cause ∧
      (causeCode cause ||| (if owed then 0x80#8 else 0x00#8)).getLsbD 7 = owed := by
  rcases cause with _ | _ | _ | _ <;> cases owed <;> decide

/-- The attempts byte of an Enrolment List image: the attempts in the low four bits, the two flags above (R181). -/
theorem attemptsByte_fields : ∀ n < 9, ∀ owed waits : Bool,
    (byteOf n ||| flagByte [false, false, false, false, owed, waits]) &&& 0x0F = BitVec.ofNat 8 n ∧
      (byteOf n ||| flagByte [false, false, false, false, owed, waits]).getLsbD 4 = owed ∧
      (byteOf n ||| flagByte [false, false, false, false, owed, waits]).getLsbD 5 = waits ∧
      (byteOf n ||| flagByte [false, false, false, false, owed, waits]) &&& 0xC0 = 0 := by
  decide +kernel

/-! ### The layouts of the images (R180, R181) -/

/-- The fields of a row image (R180). -/
theorem rowImage_fields (c : RowConfig) :
    let b := rowImage c
    let p := byteAt b 2
    b.length = 27 ∧ halfAt b 0 = c.addr ∧
    p.getLsbD 0 = c.classCode.isSome ∧ p.getLsbD 1 = c.lowLimit.isSome ∧ p.getLsbD 2 = c.highLimit.isSome ∧
    p.getLsbD 3 = c.tripLimit.isSome ∧ p.getLsbD 4 = c.gate.isSome ∧ p.getLsbD 5 = c.range.isSome ∧
    p.getLsbD 6 = c.tripOutput ∧ p.getLsbD 7 = false ∧
    byteAt b 3 = c.origin.code ∧ byteAt b 4 = c.classCode.getD 0 ∧ byteAt b 5 = c.policy.code ∧
    byteAt b 6 = BitVec.ofNat 8 c.depth ∧ halfAt b 7 = c.lowLimit.getD 0 ∧ halfAt b 9 = c.highLimit.getD 0 ∧
    halfAt b 11 = BitVec.ofNat 16 c.hysteresis ∧ byteAt b 13 = BitVec.ofNat 8 c.persistence ∧
    halfAt b 14 = c.tripLimit.getD 0 ∧ byteAt b 16 = BitVec.ofNat 8 c.tripPersistence ∧
    halfAt b 17 = BitVec.ofNat 16 c.staleWindow ∧
    halfAt b 19 = (c.gate.map Gate.addr).getD 0 ∧ halfAt b 21 = (c.gate.map Gate.threshold).getD 0 ∧
    halfAt b 23 = (c.range.map ValueRange.low).getD 0 ∧ halfAt b 25 = (c.range.map ValueRange.high).getD 0 := by
  intro b p
  have hp : p = flagByte [c.classCode.isSome, c.lowLimit.isSome, c.highLimit.isSome, c.tripLimit.isSome, c.gate.isSome,
      c.range.isSome, c.tripOutput] := by
    simp [p, b, rowImage, be16, optHalf, byteAt]
  have hbit (i : Nat) (hi : i < 8) : p.getLsbD i = [c.classCode.isSome, c.lowLimit.isSome, c.highLimit.isSome,
      c.tripLimit.isSome, c.gate.isSome, c.range.isSome, c.tripOutput].getD i false := by
    rw [hp, flagByte_getLsbD _ hi]
  refine ⟨rfl, ?_, hbit 0 (by decide), hbit 1 (by decide), hbit 2 (by decide), hbit 3 (by decide), hbit 4 (by decide),
    hbit 5 (by decide), hbit 6 (by decide), hbit 7 (by decide), ?_⟩
  · simp [b, rowImage, be16, optHalf, byteAt, halfAt, half_append]
  · simp [b, rowImage, be16, optHalf, byteAt, halfAt, half_append, byteOf]


/-- The fields of a class image (R181). -/
theorem classImage_fields (c : ClassEntry) :
    let b := classImage c
    let p := byteAt b 1
    b.length = 13 ∧ byteAt b 0 = c.code ∧
    p.getLsbD 0 = c.lowPercent.isSome ∧ p.getLsbD 1 = c.highPercent.isSome ∧ p.getLsbD 2 = c.tripPercent.isSome ∧
    p.getLsbD 3 = c.tripOutput ∧ p &&& 0xF0 = 0 ∧
    byteAt b 2 = c.policy.code ∧ byteAt b 3 = BitVec.ofNat 8 c.depth ∧
    byteAt b 4 = BitVec.ofNat 8 (c.lowPercent.getD 0) ∧ byteAt b 5 = BitVec.ofNat 8 (c.highPercent.getD 0) ∧
    byteAt b 6 = BitVec.ofNat 8 c.hysteresisPercent ∧ byteAt b 7 = BitVec.ofNat 8 c.persistence ∧
    byteAt b 8 = BitVec.ofNat 8 (c.tripPercent.getD 0) ∧ byteAt b 9 = BitVec.ofNat 8 c.tripPersistence ∧
    byteAt b 10 = (match c.staleMode with | .none => 0x00 | .fixed _ => 0x01 | .auto => 0x02) ∧
    halfAt b 11 = (match c.staleMode with | .fixed w => BitVec.ofNat 16 w | .none | .auto => 0) := by
  intro b p
  have hp : p = flagByte [c.lowPercent.isSome, c.highPercent.isSome, c.tripPercent.isSome, c.tripOutput] := rfl
  have hbit (i : Nat) (hi : i < 8) : p.getLsbD i =
      [c.lowPercent.isSome, c.highPercent.isSome, c.tripPercent.isSome, c.tripOutput].getD i false := by
    rw [hp, flagByte_getLsbD _ hi]
  have hunassigned : p &&& 0xF0 = 0 := by
    rw [hp]
    exact flagByte_and_eq_zero _ (show ∀ i < 4, (0xF0#8).getLsbD i = false by decide)
  refine ⟨rfl, rfl, hbit 0 (by decide), hbit 1 (by decide), hbit 2 (by decide), hbit 3 (by decide), hunassigned, ?_⟩
  cases hm : c.staleMode <;>
    simp [b, classImage, be16, byteAt, halfAt, half_append, byteOf, StaleMode.code, StaleMode.window, hm]


/-- The fields of a runtime record image (R181). -/
theorem runtimeImage_fields (addr : ChannelAddr) (r : Runtime) :
    let b := runtimeImage addr r
    let p := byteAt b 2
    let status := byteAt b 3
    b.length = 37 ∧ halfAt b 0 = addr ∧
    p.getLsbD 0 = r.windowMin.isSome ∧ p.getLsbD 1 = r.lastDigest.isSome ∧ p.getLsbD 2 = r.lastRaw.isSome ∧
    p.getLsbD 3 = r.lastSeq.isSome ∧ p.getLsbD 4 = r.staleDeadline.isSome ∧ p &&& 0xE0 = 0 ∧
    status.getLsbD 0 = r.low.active ∧ status.getLsbD 1 = r.high.active ∧ status.getLsbD 2 = r.trip.active ∧
    status.getLsbD 3 = r.stale ∧ status.getLsbD 4 = r.gateOpen ∧ status.getLsbD 5 = r.gapPending ∧ status &&& 0xC0 = 0 ∧
    halfAt b 4 ++ halfAt b 6 = BitVec.ofInt 32 r.sum ∧ byteAt b 8 = BitVec.ofNat 8 r.count ∧
    halfAt b 9 = r.windowMin.getD 0 ∧ halfAt b 11 = r.windowMax.getD 0 ∧
    halfAt b 13 = (r.lastDigest.map Digest.mean).getD 0 ∧ halfAt b 15 = (r.lastDigest.map Digest.min).getD 0 ∧
    halfAt b 17 = (r.lastDigest.map Digest.max).getD 0 ∧ halfAt b 19 = r.digestNumber ∧
    halfAt b 21 = r.lastRaw.getD 0 ∧ byteAt b 23 = r.lastSeq.getD 0 ∧
    halfAt b 24 = BitVec.ofNat 16 r.gapCount ∧ halfAt b 26 = BitVec.ofNat 16 r.dupCount ∧
    halfAt b 28 = BitVec.ofNat 16 r.dropCount ∧ byteAt b 30 = BitVec.ofNat 8 r.low.counter ∧
    byteAt b 31 = BitVec.ofNat 8 r.high.counter ∧ byteAt b 32 = BitVec.ofNat 8 r.trip.counter ∧
    halfAt b 33 ++ halfAt b 35 = r.staleDeadline.getD 0 := by
  intro b p status
  have hp : p = flagByte [r.windowMin.isSome, r.lastDigest.isSome, r.lastRaw.isSome, r.lastSeq.isSome,
      r.staleDeadline.isSome] := by
    simp [p, b, runtimeImage, be16, be32, optHalf, byteAt]
  have hs : status = flagByte [r.low.active, r.high.active, r.trip.active, r.stale, r.gateOpen, r.gapPending] := by
    simp [status, b, runtimeImage, be16, be32, optHalf, byteAt]
  have hpresent (i : Nat) (hi : i < 8) : p.getLsbD i = [r.windowMin.isSome, r.lastDigest.isSome, r.lastRaw.isSome,
      r.lastSeq.isSome, r.staleDeadline.isSome].getD i false := by
    rw [hp, flagByte_getLsbD _ hi]
  have hstatus (i : Nat) (hi : i < 8) : status.getLsbD i = [r.low.active, r.high.active, r.trip.active, r.stale,
      r.gateOpen, r.gapPending].getD i false := by
    rw [hs, flagByte_getLsbD _ hi]
  have hunassigned : p &&& 0xE0 = 0 := by
    rw [hp]
    exact flagByte_and_eq_zero _ (show ∀ i < 5, (0xE0#8).getLsbD i = false by decide)
  have hunassigned' : status &&& 0xC0 = 0 := by
    rw [hs]
    exact flagByte_and_eq_zero _ (show ∀ i < 6, (0xC0#8).getLsbD i = false by decide)
  refine ⟨?_, ?_, hpresent 0 (by decide), hpresent 1 (by decide), hpresent 2 (by decide), hpresent 3 (by decide),
    hpresent 4 (by decide), hunassigned, hstatus 0 (by decide), hstatus 1 (by decide), hstatus 2 (by decide),
    hstatus 3 (by decide), hstatus 4 (by decide), hstatus 5 (by decide), hunassigned', ?_⟩
  · simp [b, runtimeImage, optHalf]
  · simp [b, runtimeImage, be16, be32, optHalf, byteAt, halfAt, half_append]
  · simp [b, runtimeImage, be16, be32, optHalf, byteAt, halfAt, half_append, byteOf]
    exact ⟨quad_append _, quad_append _⟩


theorem remaining_due {deadline now : Time} {overdue : Nat} (h : 0 ≤ (deadline - now).toInt) :
    remaining deadline now overdue = (deadline - now).toNat := if_pos h

theorem remaining_past {deadline now : Time} {overdue : Nat} (h : (deadline - now).toInt < 0) :
    remaining deadline now overdue = overdue := if_neg (not_le.mpr h)

end Sys2Proof.Machine
end

section
/-! The statements of the frames built and of the images (chapters 7 and 10). -/

namespace Sys2Proof.Machine

open Sys2Proof

/-- Settles O14: each field stands at its offset as the two or four bytes its builder writes. -/
theorem builtFrames : Obligations.BuiltFrames := by
  refine ⟨?digest, ?alarm, ?overflow, ?notice, ?probe, ?response, ?sample, ?descriptor, ?request, ?rowImage, ?classImage,
    ?runtimeImage, ?alarmImage, ?overflowImage, ?enrolImage, ?element, ?portImage, ?partImage, ?codes⟩
  case digest =>
    intro node addr number d count gated active f
    exact ⟨rfl, rfl, rfl, halfAt_of_bytes rfl rfl, halfAt_of_bytes rfl rfl, halfAt_of_bytes rfl rfl,
      halfAt_of_bytes rfl rfl, halfAt_of_bytes rfl rfl, rfl,
      flagByte_getLsbD [gated, active] (by decide), flagByte_getLsbD [gated, active] (by decide),
      flagByte_and_eq_zero [gated, active] (mask := 0xFC) (show ∀ i < 2, (0xFC#8).getLsbD i = false by decide)⟩
  case alarm =>
    intro node e f
    exact ⟨rfl, rfl, rfl, halfAt_of_bytes rfl rfl, rfl, rfl, halfAt_of_bytes rfl rfl, rfl, BitVec.or_zero,
      quadAt_of_bytes rfl rfl rfl rfl, quadAt_of_bytes rfl rfl rfl rfl,
      halfAt_of_bytes rfl rfl⟩
  case overflow =>
    intro node o f
    have hstate : byteAt f.payload 3 = o.state.code := rfl
    exact ⟨rfl, rfl, rfl, halfAt_of_bytes rfl rfl, rfl, hstate, halfAt_of_bytes rfl rfl, rfl, rfl,
      quadAt_of_bytes rfl rfl rfl rfl, quadAt_of_bytes rfl rfl rfl rfl, halfAt_of_bytes rfl rfl⟩
  case notice =>
    intro node lost n f
    exact ⟨rfl, rfl, rfl, rfl, rfl, halfAt_of_bytes rfl rfl, halfAt_of_bytes rfl rfl, quadAt_of_bytes rfl rfl rfl rfl⟩
  case probe => exact fun _ _ => ⟨rfl, rfl, half_append _⟩
  case response => exact fun _ _ r => ⟨rfl, rfl, Nat.add_comm r.data.length 3, rfl, rfl, rfl, rfl⟩
  case sample => exact fun _ _ _ _ _ _ => ⟨rfl, rfl, rfl, rfl, rfl, rfl, rfl, halfAt_of_bytes rfl rfl⟩
  case descriptor =>
    exact fun _ _ _ _ _ _ _ => ⟨rfl, rfl, rfl, rfl, rfl, rfl, halfAt_of_bytes rfl rfl, halfAt_of_bytes rfl rfl,
      halfAt_of_bytes rfl rfl⟩
  case request => exact fun _ _ _ => ⟨rfl, rfl, rfl, rfl, rfl, rfl⟩
  case rowImage => exact rowImage_fields
  case classImage => exact classImage_fields
  case runtimeImage => exact runtimeImage_fields
  case alarmImage =>
    intro e b
    obtain ⟨hcause, howed⟩ := causeByte_fields e.cause e.reportOwed
    exact ⟨rfl, halfAt_of_bytes rfl rfl, rfl, rfl, halfAt_of_bytes rfl rfl, rfl, hcause, howed,
      quadAt_of_bytes rfl rfl rfl rfl, quadAt_of_bytes rfl rfl rfl rfl, halfAt_of_bytes rfl rfl⟩
  case overflowImage =>
    intro o b
    have hstate : byteAt b 2 = o.state.code := rfl
    exact ⟨rfl, halfAt_of_bytes rfl rfl, hstate, flagByte_getLsbD [o.firstLost.isSome, o.reportOwed] (by decide),
      flagByte_getLsbD [o.firstLost.isSome, o.reportOwed] (by decide),
      flagByte_and_eq_zero [o.firstLost.isSome, o.reportOwed] (mask := 0xFC)
        (show ∀ i < 2, (0xFC#8).getLsbD i = false by decide), quadAt_of_bytes rfl rfl rfl rfl⟩
  case enrolImage =>
    intro now overdue e hattempts b
    obtain ⟨hcount, howed, hwaits, hunassigned⟩ :=
      attemptsByte_fields e.attempts (Nat.lt_succ_of_le hattempts) e.probeOwed e.deadline.isSome
    have hreason : byteAt b 4 = (e.reason.map RefuseReason.code).getD 0 := rfl
    have hremaining : halfAt b 5 = BitVec.ofNat 16 ((e.deadline.map (fun d => remaining d now overdue)).getD 0) :=
      halfAt_of_bytes rfl rfl
    refine ⟨rfl, halfAt_of_bytes rfl rfl, rfl, hcount, howed, hwaits, hunassigned, ?_,
      fun hd => ?_, fun d hd hdue => ?_, fun d hd hpast => ?_, quadAt_of_bytes rfl rfl rfl rfl⟩
    · rw [hreason]
      cases e.reason <;> rfl
    · rw [hremaining, hd]
      rfl
    · rw [hremaining, hd, Option.map_some, remaining_due hdue]
      rfl
    · rw [hremaining, hd, Option.map_some, remaining_past hpast]
      rfl
  case element => exact fun _ => ⟨rfl, halfAt_of_bytes rfl rfl, rfl, rfl, halfAt_of_bytes rfl rfl⟩
  case portImage =>
    exact fun _ => ⟨rfl, quadAt_of_bytes rfl rfl rfl rfl, quadAt_of_bytes rfl rfl rfl rfl, quadAt_of_bytes rfl rfl rfl rfl,
      quadAt_of_bytes rfl rfl rfl rfl, quadAt_of_bytes rfl rfl rfl rfl⟩
  case partImage =>
    exact fun _ => ⟨rfl, quadAt_of_bytes rfl rfl rfl rfl, quadAt_of_bytes rfl rfl rfl rfl, quadAt_of_bytes rfl rfl rfl rfl,
      quadAt_of_bytes rfl rfl rfl rfl, quadAt_of_bytes rfl rfl rfl rfl⟩
  case codes => and_intros <;> rfl

end Sys2Proof.Machine
end

section
/-! The statement of the images read back (R135, R180, R181). -/

namespace Sys2Proof.Machine

open Sys2Proof

theorem present_getD {α : Type} (o : Option α) (d : α) : present o.isSome (o.getD d) = o := by
  cases o <;> rfl

theorem present_byte {o : Option Nat} (h : ∀ p, o = some p → p < 256) :
    present o.isSome (BitVec.ofNat 8 (o.getD 0)).toNat = o := by
  cases o with
  | none => rfl
  | some p =>
    have hp : p % 256 = p := Nat.mod_eq_of_lt (h p rfl)
    simp [present, hp]

theorem toNat_ofNat_byte {n : Nat} (h : n < 2 ^ 8) : (BitVec.ofNat 8 n).toNat = n := by
  rw [BitVec.toNat_ofNat, Nat.mod_eq_of_lt h]

theorem toNat_ofNat_half {n : Nat} (h : n < 2 ^ 16) : (BitVec.ofNat 16 n).toNat = n := by
  rw [BitVec.toNat_ofNat, Nat.mod_eq_of_lt h]

/-- A row image gives its row back, as a managed one (R135, R180). -/
theorem rowOfImage_rowImage {c : RowConfig} (h : c.fitsImage) : rowOfImage (rowImage c) = { c with origin := .managed } := by
  obtain ⟨hclass, hdepth, hhyst, hpersist, htripPersist, hstale⟩ := h
  obtain ⟨-, haddr, hpclass, hplow, hphigh, hptrip, hpgate, hprange, hpout, -, -, hcode, hpolicy, hbdepth, hlow, hhigh,
    hbhyst, hbpersist, htrip, hbtripPersist, hbstale, hgaddr, hgthreshold, hrlow, hrhigh⟩ := rowImage_fields c
  have hclassCode : (if c.classCode.getD 0 = 0 then none else c.classCode) = c.classCode := by
    cases hc : c.classCode with
    | none => rfl
    | some code => exact if_neg fun hzero => hclass (by rw [hc]; exact congrArg some hzero)
  have hgate : present c.gate.isSome
      { addr := (c.gate.map Gate.addr).getD 0, threshold := (c.gate.map Gate.threshold).getD 0 : Gate } = c.gate := by
    cases c.gate <;> rfl
  have hrange : present c.range.isSome
      { low := (c.range.map ValueRange.low).getD 0, high := (c.range.map ValueRange.high).getD 0 : ValueRange } = c.range := by
    cases c.range <;> rfl
  unfold rowOfImage
  simp only [haddr, hpclass, hplow, hphigh, hptrip, hpgate, hprange, hpout, hcode, hpolicy, hbdepth, hlow, hhigh, hbhyst,
    hbpersist, htrip, hbtripPersist, hbstale, hgaddr, hgthreshold, hrlow, hrhigh, hclassCode, hgate, hrange, present_getD,
    policyOf_code, Option.getD_some, toNat_ofNat_byte hdepth, toNat_ofNat_half hhyst, toNat_ofNat_byte hpersist,
    toNat_ofNat_byte htripPersist, toNat_ofNat_half hstale]

/-- The fields of a class that passes its checks fit their bytes (R12). -/
theorem templateOk_bounds {c : ClassEntry} (h : templateOk c = true) :
    c.depth < 2 ^ 8 ∧ c.persistence < 2 ^ 8 ∧ c.tripPersistence < 2 ^ 8 := by
  obtain ⟨hdepth, hpersist, -⟩ := templateOk_copied h
  have hmem : c.depth ∈ [1, 2, 4, 8, 16, 32, 64] := List.contains_iff_mem.mp hdepth
  simp only [List.mem_cons, List.not_mem_nil, or_false] at hmem
  simp only [Bool.and_eq_true, decide_eq_true_eq] at hpersist
  omega

/-- A class image gives its class back (R181). -/
theorem classOfImage_classImage {c : ClassEntry} (h : templateOk c = true) : classOfImage (classImage c) = c := by
  obtain ⟨-, hcode, hplow, hphigh, hptrip, hpout, -, hpolicy, hbdepth, hlow, hhigh, hbhyst, hbpersist, htrip,
    hbtripPersist, hmode, hwindow⟩ := classImage_fields c
  obtain ⟨hdepth, hpersist, htripPersist⟩ := templateOk_bounds h
  obtain ⟨hlowMax, hhighMax, htripMax, hhystMax, -⟩ := templateOk_percents h
  obtain ⟨-, -, hfixed⟩ := templateOk_copied h
  have hfits (o : Option Nat) (ho : ∀ p, o = some p → p ≤ 100) (p : Nat) (hp : o = some p) : p < 256 :=
    Nat.lt_of_le_of_lt (ho p hp) (by decide)
  have hread : (classOfImage (classImage c)).staleMode = c.staleMode := by
    unfold classOfImage
    dsimp only
    rw [hmode, hwindow]
    cases hm : c.staleMode with
    | none => rfl
    | auto => rfl
    | fixed w =>
      have hw : w < 2 ^ 16 := Nat.lt_of_le_of_lt (hfixed w hm).2 (by decide)
      exact congrArg StaleMode.fixed (toNat_ofNat_half hw)
  have hrest : classOfImage (classImage c) = { c with staleMode := (classOfImage (classImage c)).staleMode } := by
    unfold classOfImage
    simp only [hcode, hplow, hphigh, hptrip, hpout, hpolicy, hbdepth, hlow, hhigh, hbhyst, hbpersist, htrip, hbtripPersist,
      policyOf_code, Option.getD_some, present_byte (hfits _ hlowMax), present_byte (hfits _ hhighMax),
      present_byte (hfits _ htripMax), toNat_ofNat_byte hdepth, toNat_ofNat_byte hpersist, toNat_ofNat_byte htripPersist,
      toNat_ofNat_byte (Nat.lt_of_le_of_lt hhystMax (by decide : 25 < 2 ^ 8))]
  rw [hrest, hread]

theorem classImageOk_classImage {c : ClassEntry} (h : templateOk c = true) : classImageOk (classImage c) = true := by
  obtain ⟨-, -, -, -, -, -, -, hpolicy, -, -, -, -, -, -, -, hmode, -⟩ := classImage_fields c
  unfold classImageOk
  rw [classOfImage_classImage h, h, hpolicy, policyOf_code, hmode]
  cases c.staleMode <;> rfl

/-- Settles O49: the fields at their offsets, each within the range its bytes hold. -/
theorem imagesReadBack : Obligations.ImagesReadBack := by
  refine ⟨fun c hfits => ⟨(rowImage_fields c).1, rowOfImage_rowImage hfits, fun hvalid => ?_⟩,
    fun c hok => ⟨(classImage_fields c).1, classOfImage_classImage hok, classImageOk_classImage hok⟩⟩
  obtain ⟨-, -, -, -, -, -, -, -, -, -, -, -, hpolicy, -⟩ := rowImage_fields c
  rw [rowOfImage_rowImage hfits, hpolicy]
  exact hvalid

end Sys2Proof.Machine
end

section
/-! What joins a North queue under an idle or a busy transmitter, and the requests' intake: refusals, answers, sessions. -/

namespace Sys2Proof.Machine

open Sys2Proof

/-! ### What joins a North queue under an idle transmitter (R162) -/

section Idle

variable {s : State} (hrun : s.phase = .running) (hlaw : s.NorthLaw) (hidle : s.northTx = none)
include hrun hlaw hidle

/-- Under the North Arbiter's law a response placed at an idle transmitter is sent at once (R161, R162). -/
theorem State.placeResponse_idle (dest : NodeAddr) (r : Response) :
    s.placeResponse dest r = { s with northTx := some (responseFrame s.node dest r) } := by
  obtain ⟨hresponse, -, -, hforward⟩ := hlaw hrun hidle
  refine (State.northJoined_idle (by exact hidle)).trans ((State.pickNorth_noTurn (.inr (by exact hforward))).trans ?_)
  simp only [State.pickResponse, hresponse, List.nil_append, State.guardAfter_eq, hforward, if_true]

/-- A reference placed at an idle transmitter has its report taken at once (R91, R159, R162). -/
theorem State.placeReference_idle (r : Reference) : s.placeReference r = s.takeReport r := by
  obtain ⟨hresponse, hreport, -, hforward⟩ := hlaw hrun hidle
  rw [State.placeReference, if_neg (by simp [hreport])]
  refine (State.northJoined_idle (by exact hidle)).trans ((State.pickNorth_noTurn (.inr (by exact hforward))).trans ?_)
  simp only [State.pickResponse, State.pickReport, hresponse, hreport, List.nil_append, State.guardAfter_eq, hforward, if_true]
  cases s
  cases hresponse
  cases hreport
  cases hforward
  rfl

/-- A notice offered at an idle transmitter is sent at once, with the lost-notice count (R160, R162, R164). -/
theorem State.offerNotice_idle (n : Notice) :
    s.offerNotice n = { s with northTx := some (noticeFrame s.node s.lostNotices n), lostNotices := 0 } := by
  obtain ⟨hresponse, hreport, hnotice, hforward⟩ := hlaw hrun hidle
  rw [State.offerNotice_room n (by rw [hnotice]; decide)]
  refine (State.northJoined_idle (by exact hidle)).trans ((State.pickNorth_noTurn (.inr (by exact hforward))).trans ?_)
  simp only [State.pickResponse, State.pickReport, State.pickNotice, hresponse, hreport, hnotice, List.nil_append,
    State.guardAfter_eq, hforward, if_true]

end Idle

/-- With the North transmitter busy a response joins the tail of its queue (R161). -/
theorem State.placeResponse_waits {s : State} (hbusy : s.northTx ≠ none) (dest : NodeAddr) (r : Response) :
    s.placeResponse dest r = { s with responseQ := s.responseQ ++ [responseFrame s.node dest r] } := by
  obtain ⟨f, hf⟩ := Option.ne_none_iff_exists'.mp hbusy
  exact State.northJoined_busy (f := f) hf

theorem State.placeReference_waits {s : State} {r : Reference} (hnew : r ∉ s.reportQ) (hbusy : s.northTx ≠ none) :
    s.placeReference r = { s with reportQ := s.reportQ ++ [r] } := by
  obtain ⟨f, hf⟩ := Option.ne_none_iff_exists'.mp hbusy
  rw [State.placeReference, if_neg hnew]
  exact State.northJoined_busy (f := f) hf

theorem State.offerNotice_waits {s : State} (n : Notice) (hroom : s.noticeQ.length < 8) (hbusy : s.northTx ≠ none) :
    s.offerNotice n = { s with noticeQ := s.noticeQ ++ [n] } := by
  obtain ⟨f, hf⟩ := Option.ne_none_iff_exists'.mp hbusy
  rw [State.offerNotice_room n hroom]
  exact State.northJoined_busy (f := f) hf

theorem State.takeReport_entry {s : State} {addr : ChannelAddr} {kind : AlarmKind} {e : AlarmEntry}
    (h : entryAt s.alarms addr kind = some e) :
    s.takeReport (.entry addr kind) =
      { s with
        northTx := some (alarmFrame s.node e)
        alarms := if e.state = .closed then freeEntry s.alarms addr kind
          else changeEntry s.alarms addr kind (fun x => { x with reportOwed := false }) } := by
  simp only [State.takeReport, State.takeEntryReport, h]

/-! ### A request's session (R130) -/

theorem State.renewLease_owner {s : State} {source : NodeAddr} {ses : Session} (hs : s.session = some ses)
    (ho : ses.owner = source) :
    s.renewLease source = { s with session := some { ses with deadline := after s.now ses.lease } } := by
  simp only [State.renewLease, hs, ho, if_true]

theorem State.renewLease_other {s : State} {source : NodeAddr}
    (h : ¬ ∃ ses, s.session = some ses ∧ ses.owner = source) : s.renewLease source = s := by
  unfold State.renewLease
  split
  · next ses hs => exact if_neg fun ho => h ⟨ses, hs, ho⟩
  · rfl

theorem State.taken_session_none {h : ReqHeader} {s : State} (hs : s.session = none) : (s.taken h).session = none := by
  simp [State.taken, State.renewLease, hs]

theorem State.taken_session_other {h : ReqHeader} {s : State} {ses : Session} (hs : s.session = some ses)
    (ho : ses.owner ≠ h.source) : (s.taken h).session = some ses := by
  simp [State.taken, State.renewLease, hs, ho]

theorem State.taken_session_owner {h : ReqHeader} {s : State} {ses : Session} (hs : s.session = some ses)
    (ho : ses.owner = h.source) :
    (s.taken h).session = some { ses with deadline := after s.now ses.lease } := by
  simp [State.taken, State.renewLease, hs, ho]

/-! ### A request's answer (R127, R134) -/

theorem State.fillReplay_owner {s : State} {source : NodeAddr} (r : Response)
    (h : ∃ ses, s.session = some ses ∧ ses.owner = source) : s.fillReplay source r = { s with replay := some r } :=
  if_pos (State.isOwner_iff.mpr h)

theorem State.fillReplay_other {s : State} {source : NodeAddr} (r : Response)
    (h : ¬ ∃ ses, s.session = some ses ∧ ses.owner = source) : s.fillReplay source r = s :=
  if_neg fun ho => h (State.isOwner_iff.mp ho)

/-- Filling the Replay Slot changes nothing else (R134). -/
theorem State.fillReplay_eq (source : NodeAddr) (r : Response) (s : State) :
    s.fillReplay source r = { s with replay := (s.fillReplay source r).replay } := by
  unfold State.fillReplay
  split <;> rfl

theorem State.answer_replay (h : ReqHeader) (code : Byte) (a : Answer) (s : State) :
    (s.answer h code a).replay
      = (s.fillReplay h.source { id := h.id, code, status := a.status, data := a.data }).replay :=
  State.placeResponse_replay _ _ _

/-- A request that comes to step 6 is answered with what its execution gives (R127). -/
theorem exec_answers {c : Instr} {h : ReqHeader} {args : List Byte} {s v : State} {a : Answer} (kind : RequestKind)
    (hc : requestOf c = some (h, kind.code, args)) (hr : s.runs kind h args)
    (hx : executeRequest kind h.source args (s.taken h) = (v, a)) :
    exec c s = .next (v.replied h kind.code args a) := by
  rw [exec_runs hc hr, hx]

theorem requestKindOf_iff {code : Byte} {kind : RequestKind} : requestKindOf code = some kind ↔ kind.code = code := by
  constructor
  · intro h
    unfold requestKindOf at h
    split at h <;> cases h <;> exact BitVec.eq_of_toNat_eq (Eq.symm ‹_›)
  · rintro rfl
    exact requestKindOf_code kind

/-! ### The obligations -/

/-- Settles O29: held already, under a busy transmitter, and under an idle one. -/
theorem referencePlaced : Obligations.ReferencePlaced := by
  refine fun r s => ⟨fun h => if_pos h, State.placeReference_waits, fun hrun hlaw hidle => ⟨?_, ?_⟩⟩
  · rintro addr kind e rfl he
    rw [State.placeReference_idle hrun hlaw hidle, State.takeReport_entry he]
  · rintro rfl
    exact State.placeReference_idle hrun hlaw hidle _

/-- Settles O34: the four ways a request ends before step 6, and the table of the requests. -/
theorem requestTurnedAway : Obligations.RequestTurnedAway := by
  refine ⟨fun c h code args s hc => ⟨fun ha hl hr hfull => ?_, fun r ha hrep hr => ?_, fun ha hn => ?_⟩,
    fun code kind => requestKindOf_iff, by and_intros <;> rfl⟩
  · rw [exec_request hc, State.request_reaches ha hl hr, State.takeRequest_full (by rw [State.received_responseQ]; exact hfull)]
    simp only [State.received_partCounters]
  · obtain ⟨hf, hl, hreach, hq⟩ := ha
    obtain ⟨howned, stored, hstored, hid⟩ := hrep
    obtain rfl : stored = r := Option.some.inj (hstored.symm.trans hr)
    rw [exec_request hc, State.request_reaches hf hl hreach,
      State.takeRequest_repeat (by simpa using hq) (by simpa using State.isOwner_iff.mpr howned) (by simpa using hr) hid]
    rfl
  · have refused {a : Answer} (hd : decideRequest h.source code args (s.taken h) = (s.taken h, a)) :
        exec c s = .next ((s.taken h).replied h code args a) := by
      rw [exec_request hc, State.request_fresh ha hn, hd]
    refine ⟨fun hk => refused (decideRequest_unknown hk), fun kind hk => ?_⟩
    obtain rfl : kind.code = code := requestKindOf_iff.mp hk
    refine ⟨fun hl => refused (decideRequest_badLength hl),
      fun hl hneeds => ⟨fun hs => refused (decideRequest_session hl hneeds ?_),
        fun ses hs ho => refused (decideRequest_session hl hneeds ?_)⟩⟩
    · simp only [sessionRefusal, State.taken_session_none hs]
    · simp only [sessionRefusal, State.taken_session_other hs ho, if_neg ho]

/-- Settles O35: the Replay Slot is filled first, then the response placed. -/
theorem requestAnswered : Obligations.RequestAnswered := by
  intro h code a s r owned f
  refine ⟨fun ho => ?_, fun ho => ?_, fun hbusy => ?_, fun hrun hlaw hidle => ?_, fun ses => State.renewLease_owner,
    State.renewLease_other⟩
  · rw [State.answer_replay, State.fillReplay_owner _ ho]
  · rw [State.answer_replay, State.fillReplay_other _ ho]
  · rw [State.answer_replay, State.answer, State.fillReplay_eq, State.placeResponse_waits (by exact hbusy)]
  · rw [State.answer_replay, State.answer, State.fillReplay_eq,
      State.placeResponse_idle (by exact hrun) (by exact hlaw) (by exact hidle)]

/-- Settles O36: each session request and the expiry by the session, and a notice by the queue and the transmitter. -/
theorem sessionChanged : Obligations.SessionChanged := by
  refine ⟨fun h args s hr => ?_, fun h args s hr => ?_, fun s ses hrun hs hdue => ?_, fun n s => ⟨?_, ?_, ?_⟩⟩
  · intro lease deadline u answered
    have run {status data} {v : State} (hx : doOpenSession h.source args u = (v, { status, data })) :
        answered status data v := exec_answers .openSession rfl hr hx
    refine ⟨fun hrange => run (if_pos hrange), fun hlow hhigh => ?_⟩
    have hrange : ¬ (lease < 100 ∨ 10000 < lease) := by omega
    refine ⟨fun hs => run ((if_neg hrange).trans ?_), fun ses hs ho => run ((if_neg hrange).trans ?_),
      fun ses hs ho => run ((if_neg hrange).trans ?_)⟩
    · simp only [u, State.taken_session_none hs, State.taken_now]
      rfl
    · simp only [u, State.taken_session_owner hs ho, State.taken_now, State.taken_staging, ho, if_true]
      rfl
    · simp only [u, State.taken_session_other hs ho, if_neg ho]
  · intro u answered
    have run {status data} {v : State} (hx : doCloseSession h.source u = (v, { status, data })) :
        answered status data v := exec_answers .closeSession rfl hr hx
    refine ⟨fun hs => run ?_, fun ses hs ho => run ?_, fun ses hs ho => run ?_⟩
    · simp only [u, doCloseSession, State.taken_session_none hs]
    · simp only [u, doCloseSession, State.taken_session_owner hs ho, ho, if_true, State.taken_staging, byteOf,
      State.endSession]
    · simp only [u, doCloseSession, State.taken_session_other hs ho, if_neg ho]
  · rw [exec_leaseExpiry hrun, State.expireLease, hs]
    simp only [reached_iff.mpr hdue, if_true]
    rfl
  · exact fun hroom hbusy => State.offerNotice_waits n hroom hbusy
  · exact fun hrun hlaw hidle => State.offerNotice_idle hrun hlaw hidle n
  · exact fun hfull => State.offerNotice_full n hfull

end Sys2Proof.Machine
end

section
/-! The requests of the Table Store that change a list or the settings, the checks of images, and TRIP_RELEASE. -/

namespace Sys2Proof.Machine

open Sys2Proof

/-! ### The checks of a row image (Table 1-3) -/

theorem depthOk_iff {n : Nat} : depthOk n = true ↔ n ∈ [1, 2, 4, 8, 16, 32, 64] := List.contains_iff_mem

theorem limitsOk_iff {low high : Option Value} {hysteresis : Nat} :
    limitsOk low high hysteresis = true ↔
      ∀ l h, low = some l → high = some h → l.toInt + hysteresis ≤ h.toInt - hysteresis := by
  cases low <;> cases high <;> simp [limitsOk]

theorem windowOk_iff {n : Nat} : windowOk n = true ↔ n = 0 ∨ (10 ≤ n ∧ n ≤ 60000) := by
  simp [windowOk]

/-- A policy code has a reading exactly up to 0x03 (R180). -/
theorem policyOf_isSome {b : Byte} : (policyOf b).isSome = true ↔ b.toNat ≤ 3 := by
  constructor
  · intro h
    obtain ⟨p, hp⟩ := Option.isSome_iff_exists.mp h
    rw [← policyOf_some hp]
    cases p <;> decide
  · intro h
    obtain h | h | h | h : b.toNat = 0 ∨ b.toNat = 1 ∨ b.toNat = 2 ∨ b.toNat = 3 := by omega
    all_goals rw [policyOf, h]; rfl

/-- Settles O38: the checks stand in the order of the table, each as its condition. -/
theorem rowChecked : Obligations.RowChecked := by
  intro c policy depth persistence limits window gate known range
  have hdepth : depthOk c.depth = false ↔ ¬ depth := by rw [← Bool.not_eq_true, depthOk_iff]
  have hpersistence : (1 ≤ c.persistence && c.persistence ≤ 15 && 1 ≤ c.tripPersistence && c.tripPersistence ≤ 4) = false ↔
      ¬ persistence := by
    rw [← Bool.not_eq_true]
    simp only [Bool.and_eq_true, decide_eq_true_eq, and_assoc, persistence]
  have hlimits : (c.hysteresis ≤ 32767 && limitsOk c.lowLimit c.highLimit c.hysteresis) = false ↔ ¬ limits := by
    rw [← Bool.not_eq_true, Bool.and_eq_true, decide_eq_true_eq, limitsOk_iff]
  have hwindow : windowOk c.staleWindow = false ↔ ¬ window := by rw [← Bool.not_eq_true, windowOk_iff]
  have hgate : c.gate.any (fun g => g.addr == c.addr) = true ↔ ¬ gate := by
    simp [gate, Option.any_eq_true]
  have hknown : (policyOf policy).isNone = true ↔ ¬ known := by
    rw [show known ↔ (policyOf policy).isSome = true from policyOf_isSome.symm, Option.not_isSome_iff_eq_none,
      Option.isNone_iff_eq_none]
  have hrange : c.range.any (fun r => decide (r.high.toInt < r.low.toInt)) = true ↔ ¬ range := by
    simp [range, Option.any_eq_true]
  simp only [rowFault, hdepth, hpersistence, hlimits, hwindow, hgate, hknown, hrange]
  refine ⟨fun h1 => ?_, fun h1 h2 => ?_, fun h1 h2 h3 => ?_, fun h1 h2 h3 h4 => ?_, fun h1 h2 h3 h4 h5 => ?_,
    fun h1 h2 h3 h4 h5 h6 => ?_, fun h1 h2 h3 h4 h5 h6 h7 => ?_, fun h1 h2 h3 h4 h5 h6 h7 => ?_⟩
  · exact if_pos h1
  · rw [if_neg (not_not.mpr h1), if_pos h2]
  · rw [if_neg (not_not.mpr h1), if_neg (not_not.mpr h2), if_pos h3]
  · rw [if_neg (not_not.mpr h1), if_neg (not_not.mpr h2), if_neg (not_not.mpr h3), if_pos h4]
  · rw [if_neg (not_not.mpr h1), if_neg (not_not.mpr h2), if_neg (not_not.mpr h3), if_neg (not_not.mpr h4), if_pos h5]
  · rw [if_neg (not_not.mpr h1), if_neg (not_not.mpr h2), if_neg (not_not.mpr h3), if_neg (not_not.mpr h4),
      if_neg (not_not.mpr h5), if_pos h6]
  · rw [if_neg (not_not.mpr h1), if_neg (not_not.mpr h2), if_neg (not_not.mpr h3), if_neg (not_not.mpr h4),
      if_neg (not_not.mpr h5), if_neg (not_not.mpr h6), if_pos h7]
  · rw [if_neg (not_not.mpr h1), if_neg (not_not.mpr h2), if_neg (not_not.mpr h3), if_neg (not_not.mpr h4),
      if_neg (not_not.mpr h5), if_neg (not_not.mpr h6), if_neg (not_not.mpr h7)]

/-! ### Placing an item (R135, R136) -/

/-- The first position that holds an item for an address is the one found (R135). -/
theorem stagedPosition_first {items : List StagedItem} {addr : ChannelAddr} {i : Nat} (hi : i < items.length)
    (hat : (items.map StagedItem.addr)[i]? = some addr)
    (hfirst : ∀ j, j < i → (items.map StagedItem.addr)[j]? ≠ some addr) : stagedPosition items addr = i := by
  refine (List.findIdx_eq hi).mpr ⟨?_, fun j hj => ?_⟩
  · simpa [List.getElem?_eq_getElem hi] using hat
  · simpa [List.getElem?_eq_getElem (hj.trans hi)] using hfirst j hj

theorem stageItem_replaces {item : StagedItem} {s : State} {i : Nat} (hi : i < s.staging.length)
    (hat : (s.staging.map StagedItem.addr)[i]? = some item.addr)
    (hfirst : ∀ j, j < i → (s.staging.map StagedItem.addr)[j]? ≠ some item.addr) :
    stageItem item s = ({ s with staging := s.staging.set i item },
      { status := .ok, data := [byteOf i, byteOf s.staging.length] }) := by
  simp only [stageItem, stagedPosition_first hi hat hfirst, if_pos hi]

theorem stageItem_new {item : StagedItem} {s : State} (hnew : item.addr ∉ s.staging.map StagedItem.addr) :
    stageItem item s =
      if s.staging.length < Config.stagingCapacity then
        ({ s with staging := s.staging ++ [item] },
          { status := .ok, data := [byteOf s.staging.length, byteOf (s.staging.length + 1)] })
      else (s, { status := .stagingFull, data := [] }) := by
  have hout : ¬ stagedPosition s.staging item.addr < s.staging.length := fun h => hnew (stagedPosition_lt.mp h)
  have hend : stagedPosition s.staging item.addr = s.staging.length :=
    Nat.le_antisymm List.findIdx_le_length (Nat.le_of_not_lt hout)
  simp only [stageItem, hend, lt_irrefl, if_false]

/-- Settles O37: the image's fault first, then the place of the item. -/
theorem itemStaged : Obligations.ItemStaged := by
  refine ⟨fun h args s hr => ?_, fun h args s hr => ?_, fun h args s hr => ?_⟩
  · intro u row answered
    have hstaging : u.staging = s.staging := State.taken_staging h s
    have run {status data} {v : State} (hx : doStageRow args u = (v, { status, data })) : answered status data v :=
      exec_answers .stageRow rfl hr hx
    refine ⟨fun reason hf => run ?_, fun hf => ⟨fun i hi hat hfirst => run ?_, fun hnew hroom => run ?_,
      fun hnew hfull => run ?_⟩⟩
    · simp only [doStageRow, row, hf] at hf ⊢
    all_goals
      have hplace : doStageRow args u = stageItem (.row row) u := by simp only [doStageRow, row] at hf ⊢; rw [hf]
      rw [hplace]
    · rw [stageItem_replaces (i := i) (by rw [hstaging]; exact hi) (by rw [hstaging]; exact hat)
        (by rw [hstaging]; exact hfirst)]
      simp only [hstaging, byteOf]
    · rw [stageItem_new (by rw [hstaging]; exact hnew), if_pos (by rw [hstaging]; exact hroom)]
      simp only [hstaging, byteOf]
    · rw [stageItem_new (by rw [hstaging]; exact hnew), if_neg (by rw [hstaging]; exact not_lt.mpr hfull)]
  · intro u addr answered
    have hstaging : u.staging = s.staging := State.taken_staging h s
    have run {status data} {v : State} (hx : stageItem (.delete addr) u = (v, { status, data })) : answered status data v :=
      exec_answers .stageDelete rfl hr hx
    refine ⟨fun i hi hat hfirst => run ?_, fun hnew hroom => run ?_, fun hnew hfull => run ?_⟩
    · rw [stageItem_replaces (i := i) (by rw [hstaging]; exact hi) (by rw [hstaging]; exact hat)
        (by rw [hstaging]; exact hfirst)]
      simp only [hstaging, byteOf]
    · rw [stageItem_new (by rw [hstaging]; exact hnew), if_pos (by rw [hstaging]; exact hroom)]
      simp only [hstaging, byteOf]
    · rw [stageItem_new (by rw [hstaging]; exact hnew), if_neg (by rw [hstaging]; exact not_lt.mpr hfull)]
  · refine exec_answers .discard rfl hr ?_
    simp only [executeRequest, doDiscard, State.taken_staging, byteOf]

/-! ### Classes (R11, R12, R140) -/

theorem classAt_isSome {classes : List ClassEntry} {code : Byte} :
    (classAt classes code).isSome = true ↔ ∃ x ∈ classes, x.code = code := by
  simp [classAt]

theorem classAt_absent {classes : List ClassEntry} {code : Byte} (h : ∀ x ∈ classes, x.code ≠ code) :
    ¬ (classAt classes code).isSome = true := fun hs => by
  obtain ⟨x, hx, hcode⟩ := classAt_isSome.mp hs
  exact h x hx hcode

theorem percentsOk_iff {low high : Option Nat} {hysteresis : Nat} :
    percentsOk low high hysteresis = true ↔ ∀ l h, low = some l → high = some h → l + 2 * hysteresis ≤ h := by
  cases low <;> cases high <;> simp [percentsOk]

/-- The template checks of R12, each as its condition. -/
theorem templateOk_iff {c : ClassEntry} :
    templateOk c = true ↔ c.depth ∈ [1, 2, 4, 8, 16, 32, 64] ∧
      (1 ≤ c.persistence ∧ c.persistence ≤ 15) ∧ (1 ≤ c.tripPersistence ∧ c.tripPersistence ≤ 4) ∧
      (∀ p, c.lowPercent = some p → p ≤ 100) ∧ (∀ p, c.highPercent = some p → p ≤ 100) ∧
      (∀ p, c.tripPercent = some p → p ≤ 100) ∧ c.hysteresisPercent ≤ 25 ∧
      (∀ l h, c.lowPercent = some l → c.highPercent = some h → l + 2 * c.hysteresisPercent ≤ h) ∧
      ∀ w, c.staleMode = .fixed w → 10 ≤ w ∧ w ≤ 60000 := by
  rw [← depthOk_iff, ← percentsOk_iff]
  cases hm : c.staleMode <;>
    simp [templateOk, hm, Bool.and_eq_true, Option.all_eq_true, and_assoc]

theorem insertClass_between {c : ClassEntry} {before after : List ClassEntry} (hb : ∀ x ∈ before, x.code < c.code)
    (ha : ∀ x ∈ after, c.code < x.code) : insertClass c (before ++ after) = before ++ c :: after := by
  induction before with
  | nil =>
    cases after with
    | nil => rfl
    | cons x xs => exact if_pos (ha x List.mem_cons_self)
  | cons x xs ih =>
    have hx : ¬ c.code < x.code := BitVec.not_lt.mpr (BitVec.le_of_lt (hb x List.mem_cons_self))
    rw [List.cons_append, insertClass, if_neg hx, ih fun y hy => hb y (List.mem_cons_of_mem x hy), List.cons_append]

/-- Settles O40: the image's checks, then the class of the code; the template's checks one by one. -/
theorem classWritten : Obligations.ClassWritten := by
  refine ⟨fun h args s hr => ?_, fun h args s hr => ?_, fun c before after => insertClass_between, fun args => ?_⟩
  · intro u c answered
    have hclasses : u.classes = s.classes := State.taken_classes h s
    have run {status data} {v : State} (hx : doWriteClass args u = (v, { status, data })) : answered status data v :=
      exec_answers .writeClass rfl hr hx
    refine ⟨fun h0 => run (if_pos h0), fun h0 hbad => run ((if_neg h0).trans (if_pos hbad)), fun h0 hok => ?_⟩
    have hpast : doWriteClass args u =
        if (classAt u.classes c.code).isSome then
          ({ u with classes := u.classes.map (fun x => if x.code == c.code then c else x) }, { status := .ok, data := [0x01] })
        else if u.classes.length < Config.classCapacity then
          ({ u with classes := insertClass c u.classes }, { status := .ok, data := [0x00] })
        else (u, { status := .classFull, data := [] }) :=
      (if_neg h0).trans (if_neg (by rw [hok]; decide))
    refine ⟨fun hheld => run ?_, fun hnew hroom => run ?_, fun hnew hfull => run ?_⟩
    · rw [hpast, if_pos (classAt_isSome.mpr (by rw [hclasses]; exact hheld))]
      simp only [hclasses, beq_iff_eq]
      rfl
    · rw [hpast, if_neg (classAt_absent (by rw [hclasses]; exact hnew)), if_pos (by rw [hclasses]; exact hroom)]
      simp only [hclasses]
    · rw [hpast, if_neg (classAt_absent (by rw [hclasses]; exact hnew)), 
        if_neg (by rw [hclasses]; exact not_lt.mpr hfull)]
  · intro u answered
    have hclasses : u.classes = s.classes := State.taken_classes h s
    have run {status data} {v : State} (hx : doDeleteClass args u = (v, { status, data })) : answered status data v :=
      exec_answers .deleteClass rfl hr hx
    refine ⟨fun hheld => run ((if_pos (classAt_isSome.mpr (by rw [hclasses]; exact hheld))).trans ?_),
      fun hnew => run (if_neg (classAt_absent (by rw [hclasses]; exact hnew)))⟩
    simp only [hclasses]
  · simp only [classImageOk, Bool.and_eq_true, decide_eq_true_eq, policyOf_isSome, templateOk_iff, and_assoc]

/-! ### The part settings (R141) -/

theorem enrolModeOf_code (mode : EnrolMode) : enrolModeOf mode.code = some mode := by cases mode <;> decide

theorem unknownPolicyOf_code (unknown : UnknownPolicy) : unknownPolicyOf unknown.code = some unknown := by
  cases unknown <;> decide

theorem enrolModeOf_none {b : Byte} (h : 2 < b.toNat) : enrolModeOf b = none := by
  unfold enrolModeOf
  split
  case h_4 => rfl
  all_goals omega

theorem unknownPolicyOf_none {b : Byte} (h : 1 < b.toNat) : unknownPolicyOf b = none := by
  unfold unknownPolicyOf
  split
  case h_3 => rfl
  all_goals omega

theorem settingsOf_some {args : List Byte} {mode : EnrolMode} {unknown : UnknownPolicy} (hm : byteAt args 0 = mode.code)
    (hu : byteAt args 1 = unknown.code) (hlow : 5 ≤ (byteAt args 2).toNat) (hhigh : (byteAt args 2).toNat ≤ 250)
    (hretries : (byteAt args 3).toNat ≤ 7) :
    settingsOf args = some { mode, unknown, probeTimeout := (byteAt args 2).toNat,
                             probeRetries := (byteAt args 3).toNat } := by
  simp only [settingsOf, hm, hu, enrolModeOf_code, unknownPolicyOf_code, hlow, hhigh, hretries, and_self, if_true]

theorem settingsOf_none {args : List Byte}
    (h : 2 < (byteAt args 0).toNat ∨ 1 < (byteAt args 1).toNat ∨ (byteAt args 2).toNat < 5 ∨ 250 < (byteAt args 2).toNat ∨
      7 < (byteAt args 3).toNat) : settingsOf args = none := by
  unfold settingsOf
  split
  · next mode unknown hm hu =>
    refine if_neg fun hrange => ?_
    obtain h | h | h := h
    · rw [enrolModeOf_none h] at hm
      cases hm
    · rw [unknownPolicyOf_none h] at hu
      cases hu
    · omega
  · rfl

/-- Settles O41: by what the four bytes give. -/
theorem partSet : Obligations.PartSet := by
  intro h args s hr u timeout retries
  refine ⟨fun mode unknown hm hu hlow hhigh hretries => exec_answers .setPart rfl hr ?_,
    fun hbad => exec_answers .setPart rfl hr ?_⟩
  · simp only [executeRequest, doSetPart, settingsOf_some hm hu hlow hhigh hretries, State.taken_enrol]
    rfl
  · simp only [executeRequest, doSetPart, settingsOf_none hbad]
    rfl

/-! ### TRIP_RELEASE (R69) -/

/-- Settles O45: by the latch, and by the rows that hold it. -/
theorem tripReleased : Obligations.TripReleased := by
  intro h args s hr u holding answered
  have run {status data} {v : State} (hx : doTripRelease u = (v, { status, data })) : answered status data v :=
    exec_answers .tripRelease rfl hr hx
  refine ⟨fun hl => run ?_, fun hl hn => run ?_, fun r rest hl hn => run ?_⟩
  · simp only [u, doTripRelease, State.taken_tripLatch, hl]
  · have hfree : s.rows.filter Row.holdsLatch = [] := hn
    simp only [u, doTripRelease, State.taken_tripLatch, hl, State.taken_rows, hfree]
  · have hheld : s.rows.filter Row.holdsLatch = r :: rest := hn
    simp only [u, doTripRelease, State.taken_tripLatch, hl, State.taken_rows, hheld, hn, List.length_cons, byteOf]

end Sys2Proof.Machine
end

section
/-! The capture requests, the reads, ACK_ALARM, ENROL and RESET. -/

namespace Sys2Proof.Machine

open Sys2Proof

/-! ### The capture requests (R148 to R153) -/

theorem triggerModeOf_none {b : Byte} (h : 1 < b.toNat) : triggerModeOf b = none := by
  unfold triggerModeOf
  split
  case h_3 => rfl
  all_goals omega

theorem triggerModeOf_some {b : Byte} (h : b.toNat ≤ 1) :
    triggerModeOf b = some (if b = 0 then .onRaise else .manual) := by
  obtain h | h : b = 0 ∨ b = 1 := by bv_omega
  all_goals subst h; rfl

section Arm

variable {args : List Byte} {s : State}

/-- The argument checks of CAPTURE_ARM (R148). -/
def armRefused (args : List Byte) : Prop :=
  511 < (halfAt args 2).toNat ∨ (halfAt args 4).toNat = 0 ∨ 512 < (halfAt args 4).toNat ∨
    512 < (halfAt args 2).toNat + (halfAt args 4).toNat ∨ 1 < (byteAt args 6).toNat

theorem doCaptureArm_refused (h : armRefused args) : doCaptureArm args s = (s, { status := .badRequest, data := [] }) := by
  unfold doCaptureArm
  dsimp only
  split
  · rfl
  · next mode hmode =>
    refine if_pos ?_
    obtain h | h | h | h | h := h
    · exact .inl h
    · exact .inr (.inl h)
    · exact .inr (.inr (.inl h))
    · exact .inr (.inr (.inr h))
    · rw [triggerModeOf_none h] at hmode
      cases hmode

theorem doCaptureArm_accepted (h : ¬ armRefused args) :
    doCaptureArm args s =
      if s.capture.state ≠ .idle then (s, captureStateAnswer s)
      else if (rowAt s.rows (halfAt args 0)).all (fun r => r.config.policy == .block) then
        (s, { status := .notFound, data := [] })
      else
        ({ s with capture :=
            { state := .armed, channel := some (halfAt args 0), preCount := (halfAt args 2).toNat,
              postCount := (halfAt args 4).toNat, trigger := if byteAt args 6 = 0 then .onRaise else .manual,
              triggerIndex := none, triggerTime := none, buffer := [] } },
          { status := .ok, data := [] }) := by
  unfold armRefused at h
  rw [doCaptureArm, triggerModeOf_some (by omega)]
  exact if_neg (by unfold Config.captureCapacity; omega)

end Arm

/-- Settles O46: each request by its argument checks and the state of the record. -/
theorem captureRequested : Obligations.CaptureRequested := by
  intro h args s u c held idle answered
  have hcapture : u.capture = c := State.taken_capture h s
  have hrows : u.rows = s.rows := State.taken_rows h s
  have hnow : u.now = s.now := State.taken_now h s
  refine ⟨fun hr => ?_, fun hr => ?_, fun hr => ?_, fun hr => ?_, fun hr => ?_⟩
  · intro addr pre post wrong arm
    have run {status data} {v : State} (hx : doCaptureArm args u = (v, { status, data })) : arm status data v :=
      exec_answers .captureArm rfl hr hx
    have hwrong : wrong = armRefused args := rfl
    rw [hwrong]
    refine ⟨fun hbad => run (doCaptureArm_refused hbad), fun hok hs => run ?_, fun hok hs hrow => run ?_,
      fun r hok hs hrow hp => run ?_⟩ <;> rw [doCaptureArm_accepted hok, hcapture]
    · rw [if_pos hs, captureStateAnswer, hcapture]
    · rw [if_neg (not_not.mpr hs), hrows, if_pos (by simpa [Option.all_eq_true] using hrow)]
    · rw [if_neg (not_not.mpr hs), hrows, show rowAt s.rows (halfAt args 0) = some r from hrow, if_neg (by simpa using hp)]
  · refine ⟨fun hs => exec_answers .captureTrigger rfl hr ?_, fun hs => exec_answers .captureTrigger rfl hr ?_⟩
    · refine (if_pos (by rw [hcapture]; exact hs)).trans ?_
      rw [hcapture, hnow]
      rfl
    · refine (if_neg (by rw [hcapture]; exact hs)).trans ?_
      rw [captureStateAnswer, hcapture]
  · intro offset count read
    have run {status data} {v : State} (hx : doReadCapture args u = (v, { status, data })) : read status data v :=
      exec_answers .readCapture rfl hr hx
    refine ⟨fun hs => run ((if_pos (by rw [hcapture]; exact hs)).trans (by rw [captureStateAnswer, hcapture])),
      fun hs hbad => run ((if_neg (by rw [hcapture]; exact not_not.mpr hs)).trans ?_),
      fun index hs hi hlow hhigh hin => run ((if_neg (by rw [hcapture]; exact not_not.mpr hs)).trans ?_)⟩
    · rw [hcapture]
      by_cases hcount : count = 0 ∨ 7 < count
      · exact if_pos hcount
      · exact (if_neg hcount).trans (if_pos (by omega))
    · rw [hcapture]
      refine (if_neg (by omega)).trans ((if_neg (by omega)).trans ?_)
      rw [hi]
      rfl
  · intro abort
    have run {status data} {v : State} (hx : doCaptureAbort u = (v, { status, data })) : abort status data v :=
      exec_answers .captureAbort rfl hr hx
    refine ⟨fun addr hs hc => run ?_, fun hs => run ?_, fun hs => run ?_⟩
    · have habort : u.abortCapture =
          State.offerNotice { kind := .captureAborted, addr, detail := held, time := s.now } { u with capture := idle } := by
        simp only [State.abortCapture, Capture.abortNotice, hcapture, hc, Option.getD_some]
        rw [hnow]
        rfl
      obtain hs | hs := hs
      all_goals
        simp only [doCaptureAbort, hcapture, hs]
        rw [habort]
    · simp only [doCaptureAbort, hcapture, hs]
      rfl
    · simp only [doCaptureAbort, hcapture, hs]
      rfl
  · refine ⟨fun hs => exec_answers .captureRelease rfl hr ?_, fun hs => exec_answers .captureRelease rfl hr ?_⟩
    · refine (if_pos (by rw [hcapture]; exact hs)).trans ?_
      rw [hcapture]
      rfl
    · refine (if_neg (by rw [hcapture]; exact hs)).trans ?_
      rw [captureStateAnswer, hcapture]

/-! ### RESET (R145) -/

/-- After a management reset the response is the only thing waiting, so that the idle transmitter sends it (R145, R162). -/
theorem State.answer_reset (h : ReqHeader) (code : Byte) (a : Answer) (rows : List Row) (classes : List ClassEntry) (s : State) :
    State.answer h code a { s.managementReset with rows, classes } =
      { s.managementReset with
        rows, classes,
        northTx := some (responseFrame s.node h.source { id := h.id, code, status := a.status, data := a.data }) } := by
  rw [State.answer, State.fillReplay_other _ (by rintro ⟨ses, hs, -⟩; cases hs)]
  refine (State.northJoined_idle rfl).trans ((State.pickNorth_noTurn (.inr rfl)).trans ?_)
  simp only [State.pickResponse, State.managementReset, List.nil_append, State.guardAfter_eq, if_true]

theorem doReset_other {args : List Byte} {s : State} (h1 : byteAt args 0 ≠ 0x01) (h2 : byteAt args 0 ≠ 0x02) :
    doReset args s = (s, { status := .badRequest, data := [] }) := by
  unfold doReset
  split
  · next h => exact absurd (BitVec.eq_of_toNat_eq h) h1
  · next h => exact absurd (BitVec.eq_of_toNat_eq h) h2
  · rfl

/-- Settles O48: by the scope byte. -/
theorem managementReset : Obligations.ManagementReset := by
  intro h args s hr u cleared ok response
  have hresponse : responseFrame u.node h.source { id := h.id, code := 0x3F, status := .ok, data := [] } = response :=
    congrArg (fun node => responseFrame node h.source { id := h.id, code := 0x3F, status := .ok, data := [] })
      (State.taken_node h s)
  have hanswer (rows : List Row) (classes : List ClassEntry) :
      (cleared rows classes).answer h 0x3F ok = { cleared rows classes with northTx := some response } := by
    rw [← hresponse]
    exact State.answer_reset h 0x3F ok rows classes u
  refine ⟨fun hscope => ⟨exec_answers .reset rfl hr ?_, hanswer _ _⟩, fun hscope => ⟨exec_answers .reset rfl hr ?_,
    hanswer _ _⟩,
    fun h1 h2 => ⟨exec_answers .reset rfl hr (doReset_other h1 h2), exec_answers .reset rfl hr (doReset_other h1 h2)⟩⟩
  · have hclear : State.resetRuntime u = cleared (freshRows s.rows s.now) s.classes := by
      rw [State.resetRuntime, show u.rows = s.rows from State.taken_rows h s, show u.now = s.now from State.taken_now h s,
        show s.classes = u.classes from (State.taken_classes h s).symm]
      rfl
    simp only [executeRequest, doReset, hscope]
    rw [hclear]
    rfl
  · simp only [executeRequest, doReset, hscope]
    rfl

end Sys2Proof.Machine
end

section
/-! The reads, ACK_ALARM, and ENROL with the South Arbiter's pick at an owed probe. -/

namespace Sys2Proof.Machine

open Sys2Proof

/-! ### The reads (R143, R144) -/

/-- A renewal keeps whether a session is open and who owns it (R130). -/
theorem State.taken_session_some {s : State} {ses : Session} (h : ReqHeader) (hs : s.session = some ses) :
    ∃ kept, (s.taken h).session = some kept ∧ kept.owner = ses.owner := by
  by_cases ho : ses.owner = h.source
  · exact ⟨_, State.taken_session_owner hs ho, rfl⟩
  · exact ⟨_, State.taken_session_other hs ho, rfl⟩

/-- The lease remaining that READ_PART answers for a session (R143). -/
def leaseAnswered (s : State) (ses : Session) : Nat := remaining ses.deadline s.now (Config.overdueLease s.freeReads)

theorem leaseAnswered_le {s : State} {ses : Session} (h : (ses.deadline - s.now).toInt < 0) : leaseAnswered s ses ≤ 10000 := by
  rw [leaseAnswered, remaining_past h]
  exact Nat.le_of_lt_succ (Config.overdueLease s.freeReads).isLt

theorem readPartData_taken (h : ReqHeader) (s : State) :
    readPartData (s.taken h) =
      [s.settings.mode.code, s.settings.unknown.code, BitVec.ofNat 8 s.settings.probeTimeout,
          BitVec.ofNat 8 s.settings.probeRetries] ++ sessionData (s.taken h) ++
        [BitVec.ofNat 8 s.rows.length, BitVec.ofNat 8 s.classes.length, BitVec.ofNat 8 s.alarms.length,
          BitVec.ofNat 8 s.enrol.length, BitVec.ofNat 8 s.staging.length, s.tripLatch.code, s.capture.state.code] ++
        be32 s.now := by
  simp only [readPartData, State.taken_settings, State.taken_rows, State.taken_classes, State.taken_alarms, State.taken_enrol,
    State.taken_staging, State.taken_tripLatch, State.taken_capture, State.taken_now, byteOf]

theorem doReadCounters_refused {args : List Byte} {s : State}
    (h : ¬ (byteAt args 0 = 1 ∨ byteAt args 0 = 2 ∨ byteAt args 0 = 3) ∨ ¬ (byteAt args 1 = 0 ∨ byteAt args 1 = 1)) :
    doReadCounters args s = (s, { status := .badRequest, data := [] }) := by
  unfold doReadCounters
  dsimp only
  split
  · rfl
  · next hclear =>
    split
    case h_4 => rfl
    all_goals
      next hgroup => bv_omega

/-- Settles O42: READ_PART by the session, READ_COUNTERS by its two arguments. -/
theorem partRead : Obligations.PartRead := by
  refine ⟨fun h args s hr => ?_, fun h args s hr => ?_⟩
  · have run {data : List Byte} (hd : readPartData (s.taken h) = data) :
        exec (.readPart h args) s = .next (State.replied h 0x01 args { status := .ok, data }
          { s.taken h with freeReads := (s.taken h).freeReads + 1 }) :=
      exec_answers .readPart rfl hr (by rw [← hd]; rfl)
    cases hs : s.session with
    | none =>
      refine ⟨_, 0, run ((readPartData_taken h s).trans ?_), fun ses hses => ?_⟩
      · simp only [sessionData, State.taken_session_none hs]
        rfl
      · rw [State.taken_session_none hs] at hses
        cases hses
    | some ses =>
      obtain ⟨kept, hkept, howner⟩ := State.taken_session_some h hs
      refine ⟨_, leaseAnswered (s.taken h) kept, run ((readPartData_taken h s).trans ?_), fun held hheld => ?_⟩
      · simp only [sessionData, hkept, howner]
        rfl
      · obtain rfl : kept = held := Option.some.inj (hkept.symm.trans hheld)
        rw [← State.taken_now h s]
        exact ⟨remaining_due, leaseAnswered_le⟩
  · intro u group clear answered
    have run {status data} {v : State} (hx : doReadCounters args u = (v, { status, data })) : answered status data v :=
      exec_answers .readCounters rfl hr hx
    refine ⟨fun hbad => run (doReadCounters_refused hbad), fun hc => ⟨fun hg => run ?_, fun hg => run ?_, fun hg => run ?_⟩,
      fun hc => ⟨fun hg => run ?_, fun hg => run ?_, fun hg => run ?_⟩⟩
    all_goals
      simp only [group, clear] at hg hc
      simp only [doReadCounters, hg, hc]
      rfl

/-- Settles O43: each read of the tables, by whether what it names is there. -/
theorem tableRead : Obligations.TableRead := by
  intro h args s u start addr answered
  have henrol : u.enrol = s.enrol := State.taken_enrol h s
  have hnow : u.now = s.now := State.taken_now h s
  refine ⟨fun hr => exec_answers .listRows rfl hr ?_,
    fun hr => ⟨fun r hrow => exec_answers .readRow rfl hr ?_, fun hrow => exec_answers .readRow rfl hr ?_⟩,
    fun hr => ⟨fun r hrow => exec_answers .readState rfl hr ?_, fun hrow => exec_answers .readState rfl hr ?_⟩,
    fun hr => ⟨fun hstart => exec_answers .readAlarms rfl hr ?_, fun hstart => exec_answers .readAlarms rfl hr ?_⟩,
    fun hr => ⟨fun c hclass => exec_answers .readClass rfl hr ?_, fun hclass => exec_answers .readClass rfl hr ?_⟩,
    fun hr => ⟨u.freeReads + 1, fun i => Config.overdueEntry u.freeReads i,
      fun i => Nat.le_of_lt_succ (Config.overdueEntry u.freeReads i).isLt, exec_answers .readEnrolment rfl hr ?_⟩⟩
  · simp only [executeRequest, doListRows, State.taken_rows]
    rfl
  · simp only [executeRequest, doReadRow, State.taken_rows, show rowAt s.rows (halfAt args 0) = some r from hrow]
    rfl
  · simp only [executeRequest, doReadRow, State.taken_rows, show rowAt s.rows (halfAt args 0) = none from hrow]
    rfl
  · simp only [executeRequest, doReadState, State.taken_rows, show rowAt s.rows (halfAt args 0) = some r from hrow,
      rowAt_addr hrow]
    rfl
  · simp only [executeRequest, doReadState, State.taken_rows, show rowAt s.rows (halfAt args 0) = none from hrow]
    rfl
  · simp only [executeRequest, doReadAlarms, State.taken_alarms, State.taken_overflow,
      show (byteAt args 0).toNat = 0 from hstart, if_true, List.drop_zero]
    rfl
  · have hlater : ¬ (byteAt args 0).toNat = 0 := hstart
    simp only [executeRequest, doReadAlarms, State.taken_alarms, if_neg hlater, List.nil_append]
    rfl
  · simp only [executeRequest, doReadClass, State.taken_classes, hclass]
    rfl
  · simp only [executeRequest, doReadClass, State.taken_classes, hclass]
    rfl
  · show doReadEnrolment args u = _
    rw [doReadEnrolment, henrol, hnow]
    rfl

/-! ### ACK_ALARM (R87, R95) -/

theorem alarmKindOf_none {b : Byte} (h : b.toNat = 0 ∨ 5 < b.toNat) : alarmKindOf b = none := by
  unfold alarmKindOf
  split
  case h_5 => rfl
  all_goals omega

theorem AlarmKind.code_ne_overflow (kind : AlarmKind) : kind.code ≠ overflowCode := by cases kind <;> decide

theorem doAckAlarm_unknown {args : List Byte} {s : State} (h : (byteAt args 2).toNat = 0 ∨ 5 < (byteAt args 2).toNat) :
    doAckAlarm args s = (s, { status := .badRequest, data := [] }) := by
  have hne : byteAt args 2 ≠ overflowCode := fun he => by
    rw [he] at h
    revert h
    decide
  refine (if_neg hne).trans ?_
  rw [alarmKindOf_none h]

theorem doAckAlarm_kind {args : List Byte} {s : State} {kind : AlarmKind} (h : byteAt args 2 = kind.code) :
    doAckAlarm args s =
      if halfAt args 3 = 0 then (s, { status := .badRequest, data := [] })
      else ackEntry (halfAt args 0) kind (halfAt args 3) s := by
  refine (if_neg (by rw [h]; exact kind.code_ne_overflow)).trans ?_
  rw [h, alarmKindOf_code]

/-- Settles O44: by the kind's code, then by the record or the entry. -/
theorem alarmAcknowledged : Obligations.AlarmAcknowledged := by
  intro h args s hr u addr code episode answered changed
  have run {status data} {v : State} (hx : doAckAlarm args u = (v, { status, data })) : answered status data v :=
    exec_answers .ackAlarm rfl hr hx
  have hnow : u.now = s.now := State.taken_now h s
  have halarms : u.alarms = s.alarms := State.taken_alarms h s
  have hoverflow : u.overflow = s.overflow := State.taken_overflow h s
  have hchanged (kind : AlarmKind) (state : AlarmState) (cause : Option Cause) :
      u.changeAlarm addr kind (AlarmEntry.moved state cause u.now) = changed kind state cause := by
    simp only [changed, State.changeAlarm, hnow, halarms]
    rfl
  refine ⟨fun hbad => run (doAckAlarm_unknown hbad), fun hc hbad => run ((if_pos hc).trans (if_pos hbad)),
    fun hc ha he => ?_, fun kind hc => ⟨fun he => run ?_, fun he hnone => run ?_, fun e he hentry => ?_⟩⟩
  · have hack : doAckAlarm args u = ackOverflow u := (if_pos hc).trans (if_neg (by rintro (h | h) <;> contradiction))
    refine ⟨fun hs => run (hack.trans ?_), fun hs => run (hack.trans ?_)⟩
    · simp only [ackOverflow, hoverflow, hs, hnow]
      rfl
    · simp only [ackOverflow, hoverflow, hs]
      rfl
  · exact (doAckAlarm_kind hc).trans (if_pos he)
  · refine (doAckAlarm_kind hc).trans ((if_neg he).trans ?_)
    simp only [ackEntry, halarms]
    rw [show entryAt s.alarms (halfAt args 0) kind = none from hnone]
  · have hack : doAckAlarm args u = ackEntry addr kind episode u := (doAckAlarm_kind hc).trans (if_neg he)
    have hheld : entryAt u.alarms addr kind = some e := by rw [halarms]; exact hentry
    refine ⟨fun hne => run (hack.trans ?_), fun heq => ⟨fun hs => run (hack.trans ?_), fun hs => run (hack.trans ?_),
      fun hs => run (hack.trans ?_), fun hs => run (hack.trans ?_)⟩⟩
    · simp only [ackEntry, hheld, if_pos hne]
    all_goals simp only [ackEntry, hheld, heq, ne_eq, not_true_eq_false, if_false, hs]
    · rw [hchanged]
      rfl
    · rw [hchanged]
      rfl
    · rfl
    · rfl

/-! ### ENROL (R109) and the South pick at an owed probe (R110, R166) -/

section Enrol

variable {args : List Byte} {s : State} (hmode : s.settings.mode ≠ .off) (hrow : rowAt s.rows (halfAt args 0) = none)
include hmode hrow

theorem doEnrol_listed {e : EnrolEntry} (he : enrolAt s.enrol (halfAt args 0) = some e) :
    doEnrol args s =
      if e.state = .probing then (s, { status := .ok, data := [0x02] })
      else
        (State.southJoined { s with enrol := changeEnrol s.enrol (halfAt args 0) EnrolEntry.restarted },
          { status := .ok, data := [0x01] }) := by
  simp only [doEnrol, if_neg hmode, hrow, Option.isSome_none, Bool.false_eq_true, if_false, he]

theorem doEnrol_new (he : enrolAt s.enrol (halfAt args 0) = none) :
    doEnrol args s =
      if s.enrol.length < Config.enrolCapacity then (s.createEnrol (halfAt args 0), { status := .ok, data := [0x00] })
      else (s, { status := .tableFull, data := [] }) := by
  simp only [doEnrol, if_neg hmode, hrow, Option.isSome_none, Bool.false_eq_true, if_false, he]

end Enrol

/-- Settles O33: the lines of R109's table in order; then the pick by the transmitter and the Command Queue. -/
theorem enrolDecided : Obligations.EnrolDecided := by
  refine ⟨fun h args s hr => ?_, fun s => ⟨State.southJoined_busy, fun f rest hidle hq => ?_,
    fun before e after hidle hq henrol hbefore howed => ?_⟩⟩
  · intro addr u answered
    have run {status data} {v : State} (hx : doEnrol args u = (v, { status, data })) : answered status data v :=
      exec_answers .enrol rfl hr hx
    have hsettings : u.settings = s.settings := State.taken_settings h s
    have hrows : u.rows = s.rows := State.taken_rows h s
    have henrol : u.enrol = s.enrol := State.taken_enrol h s
    have hnow : u.now = s.now := State.taken_now h s
    refine ⟨fun hm => run (if_pos (by rw [hsettings]; exact hm)),
      fun r hm hrow => run ((if_neg (by rw [hsettings]; exact hm)).trans
        (if_pos (by rw [hrows, show rowAt s.rows (halfAt args 0) = some r from hrow]; rfl))), fun hm hrow => ?_⟩
    have hmode : u.settings.mode ≠ .off := by rw [hsettings]; exact hm
    have hnone : rowAt u.rows addr = none := by rw [hrows]; exact hrow
    refine ⟨fun e he hs => run ((doEnrol_listed hmode hnone (by rw [henrol]; exact he)).trans (if_pos hs)),
      fun e he hs => run ((doEnrol_listed hmode hnone (by rw [henrol]; exact he)).trans ((if_neg hs).trans ?_)),
      fun he hfull => run ((doEnrol_new hmode hnone (by rw [henrol]; exact he)).trans
        (if_neg (by rw [henrol]; exact not_lt.mpr hfull))),
      fun he hroom => run ((doEnrol_new hmode hnone (by rw [henrol]; exact he)).trans
        ((if_pos (by rw [henrol]; exact hroom)).trans ?_))⟩
    · rw [changeEnrol_eq_map, henrol]
      rfl
    · rw [State.createEnrol, henrol, hnow]
      rfl
  · rw [State.southJoined_idle hidle, State.pickSouth, hq]
  · have hfirst : s.enrol.find? (·.probeOwed) = some e := by
      rw [henrol, List.find?_append, List.find?_eq_none.mpr (by simpa using hbefore)]
      simp [howed]
    rw [State.southJoined_idle hidle, State.pickSouth, hq]
    simp only [hfirst]

end Sys2Proof.Machine
end

section
/-! What a valid sample does to the stale deadline and to the window (R32 to R35), and a whole conditioned arrival (R31). -/

namespace Sys2Proof.Machine

open Sys2Proof

/-! ### The stale deadline (R32) -/

/-- STALE and its deadline, which step 2 alone writes (R31, R32). -/
def Runtime.supervised (r : Runtime) : Bool × Option Time := (r.stale, r.staleDeadline)

theorem evaluateTrip_supervised (c : RowConfig) (v : Value) (r : Runtime) :
    (evaluateTrip c v r).supervised = r.supervised := by
  unfold evaluateTrip; split <;> rfl

theorem accumulateStep_supervised (rows : List Row) (c : RowConfig) (now : Time) (v : Value) (r : Runtime) :
    (accumulateStep rows c now v r).rt.supervised = r.supervised := by
  unfold accumulateStep; dsimp only; split <;> rfl

section Stale

variable {rows : List Row} {c : RowConfig} {now : Time} {m : Sample} {r : Runtime}

theorem conditionRecord_supervised (hv : m.valid = true) :
    (conditionRecord rows c now m r).rt.supervised = (restartStale c now (recordSequence m r)).supervised := by
  have hsteps : conditionRecord rows c now m r = validSteps rows c now m.value (recordSequence m r) := if_pos hv
  rw [hsteps]
  exact (accumulateStep_supervised ..).trans (evaluateTrip_supervised ..)

theorem conditionRecord_restarted (hv : m.valid = true) (hw : c.staleWindow ≠ 0) :
    (conditionRecord rows c now m r).rt.supervised = (false, some (after now c.staleWindow)) := by
  rw [conditionRecord_supervised hv, restartStale, if_pos hw]
  rfl

theorem conditionRecord_unsupervised (h : m.valid = false ∨ c.staleWindow = 0) :
    (conditionRecord rows c now m r).rt.supervised = r.supervised := by
  cases hv : m.valid with
  | false =>
    rw [conditionRecord_invalid hv]
    rfl
  | true =>
    obtain h | h := h
    · rw [hv] at h
      cases h
    · rw [conditionRecord_supervised hv, restartStale, if_neg (not_not.mpr h)]
      rfl

/-- The first event an arrival issues is the clear of an active STALE that became inactive (R32, R45). -/
theorem clear_stale_first (hbefore : r.stale = true) (hafter : (conditionRecord rows c now m r).rt.stale = false) :
    ∃ more, (conditionRecord rows c now m r).issued = AlarmEvent.clear c.addr .stale now :: more := by
  have hclear : (conditionRecord rows c now m r).change c now m.value r .stale = [AlarmEvent.clear c.addr .stale now] := by
    simp only [Worked.change, Runtime.holds, hbefore, hafter, edge]
  rw [conditionRecord_issued, hclear]
  exact ⟨_, by rw [List.append_assoc, List.append_assoc]; rfl⟩

end Stale

/-- Settles O20: step 2 alone writes STALE and its deadline. -/
theorem staleRestarted : Obligations.StaleRestarted := by
  intro rows c now m r w
  refine ⟨fun hv hw => ?_, fun h => ?_, fun hs hclear => ?_⟩
  · obtain ⟨hstale, hdeadline⟩ := Prod.mk.injEq .. ▸ conditionRecord_restarted (rows := rows) (now := now) (r := r) hv hw
    exact ⟨hstale, hdeadline, fun hs => clear_stale_first hs hstale⟩
  · exact Prod.mk.injEq .. ▸ conditionRecord_unsupervised (rows := rows) (now := now) (r := r) h
  · obtain ⟨hbefore, -⟩ := clear_issued_iff.mp hclear
    exact absurd (hs.symm.trans hbefore) Bool.false_ne_true

/-! ### The window and its digest (R33 to R35) -/

/-- A quotient truncated toward zero of a sum of so many values lies in their range (R34). -/
theorem tdiv_bounds {a : Int} {n : Nat} (hn : 0 < n) (hlow : -(32768 * (n : Int)) ≤ a) (hhigh : a ≤ 32767 * (n : Int)) :
    -32768 ≤ a.tdiv n ∧ a.tdiv n ≤ 32767 := by
  have hpos : (0 : Int) < n := by exact_mod_cast hn
  obtain ha | ha := le_total 0 a
  · rw [Int.tdiv_eq_ediv_of_nonneg ha]
    have hquot : 0 ≤ a / n := Int.ediv_nonneg ha hpos.le
    have hle : a / n ≤ 32767 := Int.ediv_le_of_le_mul hpos hhigh
    omega
  · obtain ⟨b, rfl⟩ : ∃ b, a = -b := ⟨-a, (neg_neg a).symm⟩
    have hb : 0 ≤ b := by omega
    rw [Int.neg_tdiv, Int.tdiv_eq_ediv_of_nonneg hb]
    have hquot : 0 ≤ b / n := Int.ediv_nonneg hb hpos.le
    have hle : b / n ≤ 32768 := Int.ediv_le_of_le_mul hpos (by omega)
    omega

/-- The mean of a record within its ranges does not wrap (R34). -/
theorem mean_toInt {sum : Int} {count depth : Nat} {v : Value} (hfull : count + 1 = depth)
    (hlow : -(32768 * (count : Int)) ≤ sum) (hhigh : sum ≤ 32767 * (count : Int)) :
    (BitVec.ofInt 16 ((sum + v.toInt).tdiv depth)).toInt = (sum + v.toInt).tdiv depth := by
  have hv : -32768 ≤ v.toInt ∧ v.toInt ≤ 32767 := by
    have h1 := v.le_toInt
    have h2 := v.toInt_lt
    omega
  obtain ⟨hmin, hmax⟩ := tdiv_bounds (a := sum + v.toInt) (n := depth) (by omega) (by omega) (by omega)
  rw [BitVec.toInt_ofInt]
  exact Int.bmod_eq_of_le (by omega) (by omega)

/-- The record a digest's completion is evaluated on, and the digest (R34). -/
theorem accumulateStep_full {rows : List Row} {c : RowConfig} {now : Time} {v : Value} {r : Runtime} (h : r.count + 1 = c.depth) :
    (accumulateStep rows c now v r).digest = some (digestOf c (accumulate v r)) ∧
      (accumulateStep rows c now v r).rt =
        evaluate c (gateFound rows c.gate) (digestOf c (accumulate v r)).mean (completeDigest c (accumulate v r)) := by
  have hfull : (accumulate v r).count = c.depth := h
  unfold accumulateStep
  simp only [if_pos hfull, and_self]

theorem accumulateStep_filling {rows : List Row} {c : RowConfig} {now : Time} {v : Value} {r : Runtime} (h : r.count + 1 ≠ c.depth) :
    accumulateStep rows c now v r = { rt := accumulate v r, issued := [], digest := none } :=
  if_neg (show ¬ (accumulate v r).count = c.depth from h)

/-- Settles O22: steps 1 to 3 leave the window, which the value joins; then by whether it is full. -/
theorem digestCompleted : Obligations.DigestCompleted := by
  intro rows c now m r w sum low high hv
  obtain ⟨t, ht, hw⟩ := conditionRecord_valid (rows := rows) (c := c) (now := now) (r := r) hv
  simp only [Runtime.windowed, Prod.mk.injEq] at ht
  obtain ⟨hsum, hcount, hmin, hmax, hlast, hnumber, hlow, hhigh, hgate⟩ := ht
  have hacc : (accumulate m.value t).sum = sum ∧ (accumulate m.value t).windowMin = some low ∧
      (accumulate m.value t).windowMax = some high := by
    simp only [accumulate, hsum, hmin, hmax]
    refine ⟨rfl, ?_, ?_⟩
    · cases hx : r.windowMin <;> simp only [low, hx]
    · cases hx : r.windowMax <;> simp only [high, hx]
  obtain ⟨hsum', hmin', hmax'⟩ := hacc
  refine ⟨fun hne => ?_, fun hfull => ?_⟩
  · have hstep : accumulateStep rows c now m.value t = { rt := accumulate m.value t, issued := [], digest := none } :=
      accumulateStep_filling (by rw [hcount]; exact hne)
    have hrt : w.rt = accumulate m.value t := (congrArg Worked.rt hw).trans (congrArg Worked.rt hstep)
    have hdigest : w.digest = none := (congrArg Worked.digest hw).trans (congrArg Worked.digest hstep)
    have hwlow : w.rt.low = r.low := by rw [hrt]; exact hlow
    have hwhigh : w.rt.high = r.high := by rw [hrt]; exact hhigh
    refine ⟨hdigest, by rw [hrt, hsum'], by rw [hrt]; exact congrArg (· + 1) hcount, by rw [hrt, hmin'], by rw [hrt, hmax'],
      by rw [hrt]; exact hlast, by rw [hrt]; exact hnumber, hwlow, hwhigh, by rw [hrt]; exact hgate, fun event hevent => ?_⟩
    have hchange : event ∈ w.change c now m.value r event.kind := mem_issued_iff.mp hevent
    constructor
    · intro hk
      rw [hk, Worked.change, Runtime.holds, Runtime.holds, hwlow, edge_self] at hchange
      cases hchange
    · intro hk
      rw [hk, Worked.change, Runtime.holds, Runtime.holds, hwhigh, edge_self] at hchange
      cases hchange
  · obtain ⟨hd, hrt⟩ := accumulateStep_full (rows := rows) (now := now) (v := m.value) (show t.count + 1 = c.depth by rw [hcount]; exact hfull)
    have hdigest : digestOf c (accumulate m.value t) =
        { mean := BitVec.ofInt 16 (sum.tdiv c.depth), min := low, max := high } := by
      simp only [digestOf, hsum', hmin', hmax', Option.getD_some]
    rw [hdigest] at hd hrt
    have hwrt : w.rt = _ := (congrArg Worked.rt hw).trans hrt
    refine ⟨BitVec.ofInt 16 (sum.tdiv c.depth), (congrArg Worked.digest hw).trans hd, ?_, ?_, ?_, ?_, ?_, ?_, mean_toInt hfull⟩
    all_goals rw [hwrt]
    · exact congrArg some hdigest
    · exact congrArg (· + 1) hnumber
    all_goals rfl

end Sys2Proof.Machine
end

section
/-! A conditioned arrival as a whole (R31). -/

namespace Sys2Proof.Machine

open Sys2Proof

/-- Some event of an arrival is a raise of TRIP exactly when one of the row's own channel is (R55, R68). -/
theorem any_isTripRaise_iff {rows : List Row} {c : RowConfig} {now : Time} {m : Sample} {r : Runtime} :
    (conditionRecord rows c now m r).issued.any AlarmEvent.isTripRaise = true ↔
      ∃ time v, AlarmEvent.raise c.addr .trip time v ∈ (conditionRecord rows c now m r).issued := by
  rw [List.any_eq_true]
  constructor
  · rintro ⟨e, he, htrip⟩
    obtain ⟨heq, -⟩ | ⟨heq, -⟩ := edge_mem (mem_issued_iff.mp he)
    · have hk : e.kind = .trip := by
        cases e with
        | raise addr kind time v =>
          cases kind with
          | trip => rfl
          | low | high | stale => cases htrip
        | clear addr kind time => cases htrip
      rw [hk] at heq
      exact ⟨_, _, heq ▸ he⟩
    · rw [heq] at htrip
      cases htrip
  · rintro ⟨time, v, he⟩
    exact ⟨_, he, rfl⟩

theorem State.latchStep_eq (c : RowConfig) (w : Worked) (s : State) :
    s.latchStep c w = { s with
      tripLatch := if c.tripOutput = true ∧ w.issued.any AlarmEvent.isTripRaise = true then .set else s.tripLatch } := by
  unfold State.latchStep
  split <;> rfl

/-- The offer leaves the rows with the record as the outcome of the offer gives it (R38). -/
theorem State.offerStep_rows_ne {c : RowConfig} {f : Frame} {w : Worked} {s : State} {r : Row} (hr : r ∈ s.rows)
    (hne : r.config.addr ≠ c.addr) : r ∈ (s.offerStep c f w).rows := by
  have hkept (rt : Runtime) : r ∈ (s.setRecord c.addr rt).rows := mem_changeRow.mpr (.inr ⟨hr, hne⟩)
  unfold State.offerStep
  split
  · exact hkept _
  · rw [State.offerForward_rows]
    exact hkept _

/-- What a conditioned arrival leaves alone, besides the rows' other records (R31). -/
def State.aside (s : State) :=
  (s.pending, s.phase, s.node, s.now, s.classes, s.settings, s.enrol, s.session, s.staging, s.replay, s.commandQ, s.southTx,
    s.northRx, s.northCounters)

theorem State.offerStep_aside (c : RowConfig) (f : Frame) (w : Worked) (s : State) : (s.offerStep c f w).aside = s.aside := by
  unfold State.offerStep
  split
  · rfl
  · simp only [State.aside, State.offerForward_pending, State.offerForward_phase, State.offerForward_node,
      State.offerForward_now, State.offerForward_classes, State.offerForward_settings, State.offerForward_enrol,
      State.offerForward_session, State.offerForward_staging, State.offerForward_replay, State.offerForward_commandQ,
      State.offerForward_southTx, State.offerForward_northRx, State.offerForward_northCounters]
    rfl

theorem State.takeElement_aside (addr : ChannelAddr) (e : Element) (s : State) : (s.takeElement addr e).aside = s.aside := by
  simp [State.aside]

theorem State.takeAlarmEvents_aside (es : List AlarmEvent) (s : State) : (s.takeAlarmEvents es).aside = s.aside := by
  simp [State.aside]

theorem State.received_south_aside (s : State) : (s.received .south).aside = s.aside := rfl

theorem State.offerStep_tripLatch (c : RowConfig) (f : Frame) (w : Worked) (s : State) :
    (s.offerStep c f w).tripLatch = s.tripLatch := by
  unfold State.offerStep
  split
  · rfl
  · exact State.offerForward_tripLatch _ _

/-- Settles O18: the steps of R31 in order on the received state, and what none of them writes. -/
theorem sampleConditioned : Obligations.SampleConditioned := by
  intro dest source channel seq flags value s row f addr m w u latched record offer offered element t ha hrow hb hfresh
  have hm : sampleOf f = m := sampleOf_sampleFrame ..
  have haddr : row.config.addr = addr := rowAt_addr hrow
  have hw : conditionRecord u.rows row.config u.now (sampleOf f) row.rt = w := by
    rw [hm, State.received_rows, State.received_now]
  let v : State := { u with tripLatch := latched }
  have hlatch : u.latchStep row.config w = v := by
    have hset : (row.config.tripOutput = true ∧ w.issued.any AlarmEvent.isTripRaise = true) ↔
        (row.config.tripOutput = true ∧ ∃ time v, AlarmEvent.raise row.config.addr .trip time v ∈ w.issued) :=
      and_congr_right fun _ => any_isTripRaise_iff
    rw [State.latchStep_eq, State.received_tripLatch]
    simp only [v, latched, hset]
  have hrecord (rt : Runtime) : v.setRecord row.config.addr rt = record rt := by
    have hrows : u.rows = s.rows := State.received_rows .south s
    rw [State.setRecord, haddr]
    simp only [record, v, hrows]
  have hoffer : offeredFrame v.node row.config f w = offer := by
    rw [show v.node = s.node from State.received_node .south s]
    unfold offeredFrame
    cases hp : row.config.policy
    case pass =>
      simp only [offer, hp]
      exact congrArg some (rawFrame_sampleFrame ..)
    case digest => simp only [offer, hp, haddr]
    all_goals simp only [offer, hp]
  have hforwardQ : v.forwardQ = s.forwardQ := State.received_forwardQ .south s
  have hoffered : v.offerStep row.config f w = offered := by
    simp only [offered]
    cases hg : offer with
    | none => rw [State.offerStep_none (hoffer.trans hg), hrecord]
    | some g =>
      rw [State.offerStep_some (hoffer.trans hg), hrecord]
      by_cases hroom : s.forwardQ.length < 64
      · have hjoin : v.forwardRoom = true := State.forwardRoom_iff.mpr (by rw [hforwardQ]; exact hroom)
        simp only [hjoin, if_pos hroom, afterOffer, if_true]
      · have hdrop : v.forwardRoom = false := by
          rw [Bool.eq_false_iff, Ne, State.forwardRoom_iff, hforwardQ]
          exact hroom
        simp only [hdrop, if_neg hroom, afterOffer_dropped]
        rfl
  have hkept : ∀ r ∈ s.rows, r.config.addr ≠ addr → r ∈ offered.rows := by
    intro r hr hne
    rw [← hoffered]
    refine State.offerStep_rows_ne ?_ (by rw [haddr]; exact hne)
    exact (State.received_rows .south s).symm ▸ hr
  have hrun : exec (.sampleArrival dest source channel seq flags value) s = .next t := by
    have hnow : u.now = s.now := State.received_now .south s
    calc exec (.sampleArrival dest source channel seq flags value) s
        = .next (u.conditionSample row f) := exec_sample_conditioned ha hrow hb hfresh
      _ = .next t := by
        rw [State.conditionSample]
        simp only [hw]
        rw [hlatch, hoffered, hm, hnow]
        rfl
  have haside : t.aside = s.aside :=
    calc t.aside = offered.aside := (State.takeAlarmEvents_aside ..).trans (State.takeElement_aside ..)
      _ = v.aside := hoffered ▸ State.offerStep_aside ..
      _ = s.aside := State.received_south_aside s
  have htripLatch : t.tripLatch = latched := by
    have hstep : offered.tripLatch = v.tripLatch := hoffered ▸ State.offerStep_tripLatch ..
    exact ((State.takeAlarmEvents_tripLatch ..).trans (State.takeElement_tripLatch ..)).trans hstep
  have hrows : t.rows = offered.rows := (State.takeAlarmEvents_rows ..).trans (State.takeElement_rows ..)
  refine ⟨hrun, htripLatch, hrows, fun r hr hne => hrows ▸ hkept r hr hne, ?_⟩
  simpa only [State.aside, Prod.mk.injEq] using haside

end Sys2Proof.Machine
end

section
/-! A descriptor's arrival: the entry that takes it, and the checks of R114 in their order. -/

namespace Sys2Proof.Machine

open Sys2Proof

section Taken

variable {d : Descriptor} {s : State}

/-- Only an entry in PROBING or FAILED takes a descriptor (R113). -/
theorem State.descriptorArrived_taken {e : EnrolEntry} (he : enrolAt s.enrol d.addr = some e) (hs : e.state ≠ .refused) :
    s.descriptorArrived d = s.takeDescriptor d := by
  simp only [State.descriptorArrived, he]
  cases hstate : e.state
  case refused => exact absurd hstate hs
  all_goals rfl

theorem State.descriptorArrived_ignored (h : ∀ e, enrolAt s.enrol d.addr = some e → e.state = .refused) :
    s.descriptorArrived d = s := by
  unfold State.descriptorArrived
  split
  · rfl
  · next e he => simp only [h e he]

theorem State.takeDescriptor_error {reason : RefuseReason} (h : checkDescriptor d s = .error reason) :
    s.takeDescriptor d =
      State.offerNotice { kind := .refused, addr := d.addr, detail := reason.code.setWidth 16, time := s.now }
        { s with enrol := changeEnrol s.enrol d.addr (EnrolEntry.refused reason s.now) } := by
  simp only [State.takeDescriptor, h]

theorem State.takeDescriptor_ok {c : ClassEntry} (h : checkDescriptor d s = .ok c) :
    s.takeDescriptor d =
      State.offerNotice { kind := .enrolled, addr := d.addr, detail := d.classCode.setWidth 16, time := s.now }
        (s.insertConfig (buildRow d c)) := by
  simp only [State.takeDescriptor, h]

theorem checkDescriptor_malformed (h : d.rangeHigh.toInt < d.rangeLow.toInt) :
    checkDescriptor d s = .error .malformed := if_pos h

theorem checkDescriptor_unknownClass (h : d.rangeLow.toInt ≤ d.rangeHigh.toInt) (hc : ∀ c ∈ s.classes, c.code ≠ d.classCode) :
    checkDescriptor d s = .error .unknownClass := by
  refine (if_neg (not_lt.mpr h)).trans ?_
  rw [classAt_none.mpr hc]

theorem checkDescriptor_known {c : ClassEntry} (h : d.rangeLow.toInt ≤ d.rangeHigh.toInt)
    (hc : classAt s.classes d.classCode = some c) :
    checkDescriptor d s = if Config.rowCapacity ≤ s.rows.length then .error .tableFull else .ok c := by
  refine (if_neg (not_lt.mpr h)).trans ?_
  rw [hc]

end Taken

/-- Settles O30: the offer leaves the tables and the list, by which the Enrolment Unit then decides. -/
theorem descriptorArrived : Obligations.DescriptorArrived := by
  intro dest source channel classCode low high period s f addr d u run refused ha
  have hrun : run = .next (u.descriptorArrived d) := exec_descriptor ha
  obtain ⟨henrol, hclasses, hrows, hnow⟩ :
      u.enrol = s.enrol ∧ u.classes = s.classes ∧ u.rows = s.rows ∧ u.now = s.now := by
    simp [u]
  have hrefused {reason : RefuseReason} (hc : checkDescriptor d u = .error reason) :
      u.takeDescriptor d = refused reason (reason.code.setWidth 16) := by
    simp only [State.takeDescriptor_error hc, changeEnrol_eq_map, henrol, hnow, refused]
    rfl
  rw [hrun]
  refine ⟨fun h => ?_, fun e he hs => ?_⟩
  · rw [State.descriptorArrived_ignored (by rw [henrol]; exact h)]
  rw [State.descriptorArrived_taken (e := e) (by rw [henrol]; exact he) hs]
  refine ⟨fun hbad => ?_, fun hrange hc => ?_, fun c hrange hc hfull => ?_, fun c hrange hc hroom => ?_⟩
  · exact congrArg _ (hrefused (checkDescriptor_malformed hbad))
  · exact congrArg _ (hrefused (checkDescriptor_unknownClass hrange (by rw [hclasses]; exact hc)))
  · refine congrArg _ (hrefused (reason := .tableFull) ?_)
    rw [checkDescriptor_known hrange (by rw [hclasses]; exact hc), hrows, if_pos (by exact hfull)]
  · have hok : checkDescriptor d u = .ok c := by
      rw [checkDescriptor_known hrange (by rw [hclasses]; exact hc), hrows, if_neg (by exact not_le.mpr hroom)]
    simp only [State.takeDescriptor_ok hok, State.insertConfig, hrows, henrol, hnow]
    rfl

end Sys2Proof.Machine
end

section
/-! The commit: the counts, the position of an overflow, the items one by one, and the retirement of a row's entries. -/

namespace Sys2Proof.Machine

open Sys2Proof

/-! ### The running count (R137) -/

/-- The rows after some items, from a count of rows before them (R137). -/
def runningCount (rows : List Row) (count : Nat) (items : List StagedItem) : Nat :=
  count + countClass rows .insert items - countClass rows .deletion items

/-- The count after one item more; no count in use is below the items left, so that none is cut off at 0. -/
theorem runningCount_cons {rows : List Row} {count : Nat} (item : StagedItem) (items : List StagedItem) (hpos : 0 < count) :
    runningCount rows count (item :: items) = runningCount rows (runningCount rows count [item]) items := by
  simp only [runningCount, countClass, List.countP_cons, List.countP_nil, beq_iff_eq]
  cases classify rows item <;> simp <;> omega

theorem overflowPosition_cons (rows : List Row) (count position : Nat) (item : StagedItem) (rest : List StagedItem) :
    overflowPosition rows count position (item :: rest) =
      if Config.rowCapacity < runningCount rows count [item] then position
      else overflowPosition rows (runningCount rows count [item]) (position + 1) rest := by
  have hcount : runningCount rows count [item] =
      (match classify rows item with
        | .insert => count + 1
        | .deletion => count - 1
        | .replacement | .noOp => count) := by
    simp only [runningCount, countClass, List.countP_cons, List.countP_nil]
    cases classify rows item <;> rfl
  rw [hcount]
  rfl

/-- The position found is the first at which the running count exceeds the capacity (R137). -/
theorem overflowPosition_first {rows : List Row} {items : List StagedItem} {count : Nat} (position : Nat)
    (hcount : items.length ≤ count) (hexceeds : Config.rowCapacity < runningCount rows count items)
    (hfits : count ≤ Config.rowCapacity) :
    ∃ k, overflowPosition rows count position items = position + k ∧ k < items.length ∧
      Config.rowCapacity < runningCount rows count (items.take (k + 1)) ∧
      ∀ j, j < k → ¬ Config.rowCapacity < runningCount rows count (items.take (j + 1)) := by
  induction items generalizing count position with
  | nil => exact absurd hexceeds (not_lt.mpr (by simpa [runningCount, countClass] using hfits))
  | cons item rest ih =>
    have hpos : 0 < count := lt_of_lt_of_le (Nat.succ_pos _) hcount
    rw [overflowPosition_cons]
    by_cases hhere : Config.rowCapacity < runningCount rows count [item]
    · rw [if_pos hhere]
      exact ⟨0, rfl, Nat.succ_pos _, hhere, fun j hj => absurd hj (Nat.not_lt_zero j)⟩
    · rw [if_neg hhere]
      have hleft : rest.length ≤ runningCount rows count [item] := by
        have hone : countClass rows .deletion [item] ≤ 1 := List.countP_le_length
        rw [List.length_cons] at hcount
        unfold runningCount
        omega
      rw [runningCount_cons item rest hpos] at hexceeds
      obtain ⟨k, hk, hlt, hexc, hfirst⟩ := ih (position + 1) hleft hexceeds (not_lt.mp hhere)
      refine ⟨k + 1, by omega, Nat.succ_lt_succ hlt, ?_, fun j hj => ?_⟩
      · rw [List.take_succ_cons, runningCount_cons item _ hpos]
        exact hexc
      · rw [List.take_succ_cons, runningCount_cons item _ hpos]
        cases j with
        | zero => simpa [runningCount, countClass] using hhere
        | succ j => exact hfirst j (Nat.lt_of_succ_lt_succ hj)

/-! ### The items (R16 to R18, R138) -/

theorem insertRow_between {row : Row} {before after : List Row} (hb : ∀ r ∈ before, r.config.addr < row.config.addr)
    (ha : ∀ r ∈ after, row.config.addr < r.config.addr) : insertRow row (before ++ after) = before ++ row :: after := by
  induction before with
  | nil =>
    cases after with
    | nil => rfl
    | cons x xs => exact if_pos (ha x List.mem_cons_self)
  | cons x xs ih =>
    have hx : ¬ row.config.addr < x.config.addr := BitVec.not_lt.mpr (BitVec.le_of_lt (hb x List.mem_cons_self))
    rw [List.cons_append, insertRow, if_neg hx, ih fun y hy => hb y (List.mem_cons_of_mem x hy), List.cons_append]

theorem State.applyItem_insert {s : State} {c : RowConfig} (h : rowAt s.rows c.addr = none) :
    s.applyItem (.row c) = s.insertConfig c := by
  simp [State.applyItem, h]

theorem State.applyItem_replace {s : State} {c : RowConfig} {r : Row} (h : rowAt s.rows c.addr = some r) :
    s.applyItem (.row c) = s.replaceConfig c := by
  simp [State.applyItem, h]

theorem State.applyItem_noOp {s : State} {addr : ChannelAddr} (h : rowAt s.rows addr = none) :
    s.applyItem (.delete addr) = s := by
  simp [State.applyItem, h]

theorem State.applyItem_delete {s : State} {addr : ChannelAddr} {r : Row} (h : rowAt s.rows addr = some r) :
    s.applyItem (.delete addr) = s.deleteConfig addr := by
  simp [State.applyItem, h]

/-- The deletion of a row aborts an unfinished capture on it and no other (R154). -/
theorem State.captureRowDeleted_eq (addr : ChannelAddr) (s : State) :
    s.captureRowDeleted addr =
      if s.capture.channel = some addr ∧ (s.capture.state = .armed ∨ s.capture.state = .triggered) then
        State.offerNotice
          { kind := .captureAborted, addr, detail := BitVec.ofNat 16 s.capture.buffer.length, time := s.now }
          { s with capture := s.capture.toIdle }
      else s := by
  unfold State.captureRowDeleted
  split
  · next h =>
    obtain ⟨hchannel, -⟩ := h
    simp only [State.abortCapture, Capture.abortNotice, hchannel, Option.getD_some]
  · rfl

/-! ### Retirement (R89) -/

theorem kindsOf_append (before after : List AlarmEntry) (addr : ChannelAddr) :
    kindsOf (before ++ after) addr = kindsOf before addr ++ kindsOf after addr := by
  simp [kindsOf]

theorem kindsOf_none {alarms : List AlarmEntry} {addr : ChannelAddr} (h : ∀ e ∈ alarms, e.addr ≠ addr) :
    kindsOf alarms addr = [] := by
  rw [kindsOf, List.filter_eq_nil_iff.mpr (by simpa using h), List.map_nil]

/-- The references of an address's entries, by their kinds (R89). -/
theorem references_kindsOf (alarms : List AlarmEntry) (addr : ChannelAddr) :
    (kindsOf alarms addr).map (Reference.entry addr) =
      (alarms.filter (fun e => e.addr = addr)).map (fun e => Reference.entry e.addr e.kind) := by
  rw [kindsOf, List.map_map]
  simp only [beq_eq_decide]
  refine List.map_congr_left fun e he => ?_
  obtain ⟨-, haddr⟩ := List.mem_filter.mp he
  simp only [Function.comp, of_decide_eq_true haddr]

/-- The entry of an address retired, every other as it is (R89). -/
def retiredEntry (addr : ChannelAddr) (time : Time) (e : AlarmEntry) : AlarmEntry :=
  if e.addr = addr then e.moved .closed (some .retired) time else e

theorem retiredEntry_other {addr : ChannelAddr} {time : Time} {e : AlarmEntry} (h : e.addr ≠ addr) :
    retiredEntry addr time e = e := if_neg h

/-- Entries retired one kind after another under a busy North transmitter (R89, R91). -/
theorem State.retireKinds_busy {s : State} (addr : ChannelAddr) {kinds : List AlarmKind} (hn : kinds.Nodup)
    (hall : ∀ e ∈ s.alarms, e.addr = addr → e.kind ∈ kinds) (hbusy : s.northTx ≠ none) :
    kinds.foldl (fun s kind => s.changeAlarm addr kind (AlarmEntry.moved .closed (some .retired) s.now)) s =
      { s with
        alarms := s.alarms.map (retiredEntry addr s.now)
        reportQ := s.reportQ ++ (kinds.map (Reference.entry addr)).filter (fun r => r ∉ s.reportQ) } := by
  obtain ⟨f, hf⟩ := Option.ne_none_iff_exists'.mp hbusy
  have halarms : s.alarms.map (fun e => if e.addr = addr ∧ e.kind ∈ kinds then e.moved .closed (some .retired) s.now else e) =
      s.alarms.map (retiredEntry addr s.now) := by
    refine List.map_congr_left fun e he => ?_
    by_cases ha : e.addr = addr
    · rw [retiredEntry, if_pos ha, if_pos ⟨ha, hall e he ha⟩]
    · rw [retiredEntry, if_neg ha, if_neg fun h => ha h.1]
  rw [State.changeAlarms_busy (change := fun t e => e.moved .closed (some .retired) t) addr (fun _ _ => ⟨rfl, rfl⟩) kinds s hn hf,
    halarms]

/-- An address without entries has nothing to retire (R89). -/
theorem State.retire_none {s : State} {addr : ChannelAddr} (h : ∀ e ∈ s.alarms, e.addr ≠ addr) : s.retire addr = s := by
  rw [State.retire, kindsOf_none h, List.foldl_nil]

theorem State.retire_busy {s : State} {addr : ChannelAddr} (hkeys : (s.alarms.map AlarmEntry.key).Nodup)
    (hbusy : s.northTx ≠ none) :
    s.retire addr =
      { s with
        alarms := s.alarms.map (retiredEntry addr s.now)
        reportQ := s.reportQ ++
          ((s.alarms.filter (fun e => e.addr = addr)).map (fun e => Reference.entry e.addr e.kind)).filter
            (fun r => r ∉ s.reportQ) } := by
  have hall : ∀ e ∈ s.alarms, e.addr = addr → e.kind ∈ kindsOf s.alarms addr := fun e he ha =>
    mem_kindsOf.mpr (entryAt_isSome.mpr ⟨e, he, AlarmEntry.isFor_iff.mpr ⟨ha, rfl⟩⟩)
  rw [State.retire, State.retireKinds_busy addr (kindsOf_nodup hkeys addr) hall hbusy, references_kindsOf]

section Split

variable {before after : List AlarmEntry} {e : AlarmEntry} {addr : ChannelAddr} {kind : AlarmKind}
  (hbefore : ∀ x ∈ before, ¬ x.isFor addr kind = true) (he : e.isFor addr kind = true)
include hbefore he

theorem entryAt_split : entryAt (before ++ e :: after) addr kind = some e := by
  rw [entryAt, List.find?_append, List.find?_eq_none.mpr hbefore, Option.none_or, List.find?_cons_of_pos he]

variable (hafter : ∀ x ∈ after, ¬ x.isFor addr kind = true)
include hafter

theorem changeEntry_split (change : AlarmEntry → AlarmEntry) :
    changeEntry (before ++ e :: after) addr kind change = before ++ change e :: after := by
  have hkept {l : List AlarmEntry} (h : ∀ x ∈ l, ¬ x.isFor addr kind = true) :
      l.map (fun x => if x.isFor addr kind then change x else x) = l :=
    (List.map_congr_left fun x hx => if_neg (h x hx)).trans (List.map_id l)
  rw [changeEntry, List.map_append, List.map_cons, hkept hbefore, hkept hafter, if_pos he]

theorem freeEntry_split : freeEntry (before ++ e :: after) addr kind = before ++ after := by
  have hkept {l : List AlarmEntry} (h : ∀ x ∈ l, ¬ x.isFor addr kind = true) :
      l.filter (fun x => !x.isFor addr kind) = l :=
    List.filter_eq_self.mpr fun x hx => by simpa using h x hx
  rw [freeEntry, List.filter_append, List.filter_cons_of_neg (by simpa using he), hkept hbefore, hkept hafter]

end Split

/-- With the North transmitter idle the report of the first entry retired is sent at its joining, which frees the entry; the
references of the others wait (R89, R91, R162). -/
theorem State.retire_idle {s : State} {addr : ChannelAddr} {before after : List AlarmEntry} {e : AlarmEntry}
    (hrun : s.phase = .running) (hlaw : s.NorthLaw) (hidle : s.northTx = none)
    (hkeys : (s.alarms.map AlarmEntry.key).Nodup) (hs : s.alarms = before ++ e :: after)
    (hbefore : ∀ x ∈ before, x.addr ≠ addr) (he : e.addr = addr) :
    s.retire addr =
      { s with
        northTx := some (alarmFrame s.node (retiredEntry addr s.now e))
        alarms := (before ++ after).map (retiredEntry addr s.now)
        reportQ := (after.filter (fun x => x.addr = addr)).map (fun x => Reference.entry x.addr x.kind) } := by
  obtain ⟨-, hreport, -⟩ := hlaw hrun hidle
  have hkinds : kindsOf s.alarms addr = e.kind :: kindsOf after addr := by
    rw [hs, kindsOf_append, kindsOf_none hbefore, List.nil_append, kindsOf, List.filter_cons_of_pos (by simpa using he)]
    rfl
  have hnodup : (e.kind :: kindsOf after addr).Nodup := hkinds ▸ kindsOf_nodup hkeys addr
  obtain ⟨hnew, hnodup⟩ := List.nodup_cons.mp hnodup
  have hefor : e.isFor addr e.kind = true := AlarmEntry.isFor_iff.mpr ⟨he, rfl⟩
  have hb : ∀ x ∈ before, ¬ x.isFor addr e.kind = true := fun x hx hfor => hbefore x hx (AlarmEntry.isFor_iff.mp hfor).1
  have ha : ∀ x ∈ after, ¬ x.isFor addr e.kind = true := fun x hx hfor =>
    hnew (mem_kindsOf.mpr (entryAt_isSome.mpr ⟨x, hx, hfor⟩))
  let gone := e.moved .closed (some .retired) s.now
  let sent : State := { s with northTx := some (alarmFrame s.node gone), alarms := before ++ after }
  have hfirst : s.changeAlarm addr e.kind (AlarmEntry.moved .closed (some .retired) s.now) = sent := by
    rw [State.changeAlarm, hs, changeEntry_split hb hefor ha,
      State.placeReference_idle (by exact hrun) (by exact hlaw) (by exact hidle),
      State.takeReport_entry (entryAt_split (e := gone) hb hefor), if_pos (by rfl), freeEntry_split (e := gone) hb hefor ha]
  have hall : ∀ x ∈ sent.alarms, x.addr = addr → x.kind ∈ kindsOf after addr := by
    intro x hx haddr
    obtain hx | hx := List.mem_append.mp hx
    · exact absurd haddr (hbefore x hx)
    · exact mem_kindsOf.mpr (entryAt_isSome.mpr ⟨x, hx, AlarmEntry.isFor_iff.mpr ⟨haddr, rfl⟩⟩)
  rw [State.retire, hkinds, List.foldl_cons, hfirst,
    State.retireKinds_busy (s := sent) addr hnodup hall (Option.some_ne_none _), references_kindsOf]
  simp only [sent, gone, hreport, retiredEntry, if_pos he, List.nil_append, List.not_mem_nil, not_false_eq_true, decide_true,
    List.filter_true]

/-! ### The obligation -/

theorem classify_row (rows : List Row) (c : RowConfig) :
    classify rows (.row c) = if (rowAt rows c.addr).isSome then .replacement else .insert := by
  simp only [classify, StagedItem.addr]
  cases (rowAt rows c.addr).isSome <;> rfl

theorem classify_delete (rows : List Row) (addr : ChannelAddr) :
    classify rows (.delete addr) = if (rowAt rows addr).isSome then .deletion else .noOp := by
  simp only [classify, StagedItem.addr]
  cases (rowAt rows addr).isSome <;> rfl

/-- Settles O39: the counts are those of the items' classes, the items each as its effect, the retirement by the transmitter. -/
theorem commitApplied : Obligations.CommitApplied := by
  refine ⟨fun h args s hr => ?_, fun s c => ⟨State.applyItem_insert, fun r => State.applyItem_replace⟩,
    fun s addr => ⟨State.applyItem_noOp, fun r hrow => ?_⟩, fun c now => rfl, fun row before after => insertRow_between,
    fun s addr hlaw => ?_⟩
  · intro u held isRow inserts replacements deletions exceeds position
    have hclass (i : StagedItem) : classify s.rows i =
        if isRow i then (if held i then .replacement else .insert) else (if held i then .deletion else .noOp) := by
      cases i with
      | row c => exact classify_row s.rows c
      | delete a => exact classify_delete s.rows a
    have hinsert : (fun i => classify s.rows i == .insert) = fun i => isRow i && !held i := by
      funext i
      rw [hclass]
      cases isRow i <;> cases held i <;> rfl
    have hreplace : (fun i => classify s.rows i == .replacement) = fun i => isRow i && held i := by
      funext i
      rw [hclass]
      cases isRow i <;> cases held i <;> rfl
    have hdelete : (fun i => classify s.rows i == .deletion) = fun i => !isRow i && held i := by
      funext i
      rw [hclass]
      cases isRow i <;> cases held i <;> rfl
    have hexceeds (n : Nat) :
        exceeds n ↔ Config.rowCapacity < runningCount s.rows s.rows.length (s.staging.take n) := by
      rw [runningCount, countClass, countClass, hinsert, hdelete]
      rfl
    have hafter : rowsAfter s.rows s.staging = s.rows.length + inserts - deletions := by
      rw [rowsAfter, countClass, countClass, hinsert, hdelete]
    have hcommit : executeRequest .commit h.source args u = doCommit u := rfl
    have hrows : u.rows = s.rows := State.taken_rows h s
    have hstaging : u.staging = s.staging := State.taken_staging h s
    refine ⟨fun hover => exec_answers .commit rfl hr (hcommit.trans ?_), fun hover hheld hitems => ?_,
      fun hfits => exec_answers .commit rfl hr (hcommit.trans ?_)⟩
    · refine (if_pos (by rw [hrows, hstaging, hafter]; exact hover)).trans ?_
      rw [hrows, hstaging]
      rfl
    · have hlong : s.staging.length ≤ s.rows.length := by
        have hinserts : inserts ≤ s.staging.length := List.countP_le_length
        omega
      obtain ⟨k, hk, hlt, hexc, hfirst⟩ := overflowPosition_first 0 hlong (by
        show _ < rowsAfter s.rows s.staging
        rw [hafter]
        exact hover) hheld
      have hposition : position = k := hk.trans (Nat.zero_add k)
      rw [hposition]
      exact ⟨hlt, (hexceeds _).mpr hexc, fun j hj hjexc => hfirst j hj ((hexceeds _).mp hjexc)⟩
    · refine (if_neg (by rw [hrows, hstaging, hafter]; exact not_lt.mpr hfits)).trans ?_
      simp only [hrows, hstaging, countClass, hinsert, hreplace, hdelete]
      rfl
  · rw [State.applyItem_delete hrow, State.deleteConfig, State.captureRowDeleted_eq]
    rfl
  · obtain ⟨⟨hkeys, -⟩, -⟩ := State.alarmLaw_iff.mp hlaw
    exact ⟨State.retire_busy hkeys, State.retire_none,
      fun before e after hrun hnorth hidle hs hbefore he => State.retire_idle hrun hnorth hidle hkeys hs hbefore he⟩

end Sys2Proof.Machine
end
